-- ==== Sys2Proof/Word.lean ====
section
/-! DEFINITION. The numbers and names of spec/00_scope.md (Conventions): channels, heads, monitors, key codes, bytes, fixed tables, rectangles. -/

namespace Sys2Proof

/-- One byte of a report, a frame or an image. -/
abbrev Byte := BitVec 8

/-- Channel n of the manual (1 to 8) is `n - 1` here; NONE is `none` of `Option Chan`. -/
abbrev Chan := Fin 8

/-- Head Hn (1 to 16) is `n - 1`. -/
abbrev Head := Fin 16

/-- Monitor Mn (1 to 6) is `n - 1`. -/
abbrev Monitor := Fin 6

/-- Button n (1 to 5) is `n - 1`. -/
abbrev Button := Fin 5

/-- Isolation group 0 to 3. -/
abbrev Group := Fin 4

/-- A key code as a number; the ranges are those of the table "Key codes". -/
abbrev Code := Nat

/-- The two console keyboard ports (R23). -/
inductive Port where
  | key
  | aux
  deriving DecidableEq, Repr

/-- Codes 224 to 231 are the modifiers. -/
def isModifier (k : Code) : Bool := 224 ≤ k && k ≤ 231

/-- Codes 4 to 164 are the ordinary keys. -/
def isOrdinary (k : Code) : Bool := 4 ≤ k && k ≤ 164

/-- A rectangle (x, y, w, h). -/
structure Rect where
  x : Nat
  y : Nat
  w : Nat
  h : Nat
  deriving DecidableEq, Repr

/-- The points of a rectangle: x ≤ px < x + w and y ≤ py < y + h. -/
def Rect.contains (r : Rect) (px py : Nat) : Bool :=
  r.x ≤ px && px < r.x + r.w && r.y ≤ py && py < r.y + r.h

/-- Two rectangles share a point. -/
def Rect.meets (a b : Rect) : Bool :=
  a.x < b.x + b.w && b.x < a.x + a.w && a.y < b.y + b.h && b.y < a.y + a.h

/-- Entry `i` of a fixed table. -/
def nth {α : Type} {n : Nat} (v : Vector α n) (i : Fin n) : α := v[i]

/-- A fixed table with entry `i` replaced. -/
def put {α : Type} {n : Nat} (v : Vector α n) (i : Fin n) (a : α) : Vector α n := v.set i a

/-- Every entry of a fixed table changed by `f`. -/
def mapAll {α β : Type} {n : Nat} (f : α → β) (v : Vector α n) : Vector β n :=
  Vector.ofFn fun i => f (nth v i)

theorem nth_put {α : Type} {n : Nat} (v : Vector α n) (i j : Fin n) (a : α) :
    nth (put v i a) j = if i = j then a else nth v j := by
  simp [nth, put, Vector.getElem_set, Fin.ext_iff]

@[simp] theorem nth_put_self {α : Type} {n : Nat} (v : Vector α n) (i : Fin n) (a : α) :
    nth (put v i a) i = a := by simp [nth_put]

theorem nth_put_ne {α : Type} {n : Nat} (v : Vector α n) {i j : Fin n} (h : i ≠ j) (a : α) :
    nth (put v i a) j = nth v j := by simp [nth_put, h]

@[simp] theorem nth_mapAll {α β : Type} {n : Nat} (f : α → β) (v : Vector α n) (i : Fin n) :
    nth (mapAll f v) i = f (nth v i) := by simp [nth, mapAll]

@[simp] theorem nth_replicate {α : Type} {n : Nat} (a : α) (i : Fin n) :
    nth (Vector.replicate n a) i = a := by simp [nth]

theorem nth_ext {α : Type} {n : Nat} {v w : Vector α n} (h : ∀ i, nth v i = nth w i) : v = w := by
  ext i hi
  exact h ⟨i, hi⟩

/-- The channels in ascending number. -/
def allChans : List Chan := [0, 1, 2, 3, 4, 5, 6, 7]

/-- The monitors in ascending number. -/
def allMonitors : List Monitor := [0, 1, 2, 3, 4, 5]

/-- The heads in ascending number. -/
def allHeads : List Head := [0, 1, 2, 3, 4, 5, 6, 7, 8, 9, 10, 11, 12, 13, 14, 15]

/-- The buttons in ascending number. -/
def allButtons : List Button := [0, 1, 2, 3, 4]

/-- An entry of a fixed table named by a number, absent outside the table. -/
def finOf? (n k : Nat) : Option (Fin n) := if h : k < n then some ⟨k, h⟩ else none

/-- A channel (or another object numbered from 1) named by a byte: 0 and numbers above n name none. -/
def oneBased? (n k : Nat) : Option (Fin n) := if k = 0 then none else finOf? n (k - 1)

/-- The number the manual gives an optional object numbered from 1, with 0 for NONE. -/
def numberOrZero {n : Nat} : Option (Fin n) → Nat
  | none => 0
  | some i => i.val + 1

end Sys2Proof
end

