-- ==== Sys2Proof/Syntax.lean ====
section
/-! DEFINITION. The commands: one constructor per row of spec/opcode_table.json, with the operands that the row's rules give it. -/

namespace Sys2Proof

/-- A report of a boot-form keyboard (11.1): byte 0 the modifier set, byte 1 ignored, bytes 2 to 7 the six slots. -/
structure KeyboardBytes where
  modifiers : Byte
  ignored   : Byte
  slot1     : Byte
  slot2     : Byte
  slot3     : Byte
  slot4     : Byte
  slot5     : Byte
  slot6     : Byte
  deriving DecidableEq, Repr

/-- A request frame (9.1, 11.3) without its command byte, which the command's own row stands for; its length agrees
with its payload length field (check 0 of R162), so the payload alone stands for both. -/
structure Frame where
  tag     : Byte
  level   : Byte
  tableId : Byte
  first   : Byte
  count   : Byte
  payload : List Byte
  deriving DecidableEq, Repr

/-- The interfaces of a channel link on which reports are sent or asked for (R20). -/
inductive Interface where
  | keyboard
  | absolutePointer
  | relativePointer
  | keyboardLeds
  | management
  deriving DecidableEq, Repr

/-- The commands of the block. Each docstring names the row's rule. -/
inductive Instr where
  /-- R21: `detect` holds the levels of the six hot-plug detects, sampled by the reset (R122). -/
  | powerOnReset (detect : Vector Bool 6)
  /-- R4. -/
  | configure (c : Chan)
  /-- R5: the computer sets (`on`) or clears the remote-wake feature. -/
  | setRemoteWake (c : Chan) (on : Bool)
  /-- R5. -/
  | suspend (c : Chan)
  /-- R6. -/
  | resume (c : Chan)
  /-- R8. -/
  | wakeWindowExpiry (c : Chan)
  /-- R10: loss of the link, bus reset or removal of the configuration. -/
  | linkLoss (c : Chan)
  /-- R19: the report's one byte. -/
  | ledOutputReport (c : Chan) (lamps : Byte)
  /-- R20. -/
  | getReport (c : Chan) (i : Interface)
  /-- R23: `bootKeyboard` says whether the device offers a keyboard-class interface with the boot form. -/
  | keyboardPortAttach (p : Port) (bootKeyboard : Bool)
  /-- R24. -/
  | keyboardPortDetach (p : Port)
  /-- R25, R26. -/
  | keyboardReport (p : Port) (r : KeyboardBytes)
  /-- R53. -/
  | tapWindowExpiry
  /-- R55. -/
  | armWindowExpiry
  /-- R80, R81. -/
  | cueElementEnd
  /-- R78. -/
  | sleepPulse
  /-- R89. -/
  | macroStepExpiry
  /-- R124: `relativePointer` says whether the device offers a pointer-class interface with relative motion. -/
  | pointerPortAttach (relativePointer : Bool)
  /-- R126. -/
  | pointerPortDetach
  /-- R125: the report's bytes (11.1). -/
  | pointerReport (bytes : List Byte)
  /-- R153. -/
  | dwellExpiry
  /-- R101: the frame size the part has measured, or `none` when the stream stopped or cannot be measured. -/
  | headSignalChange (h : Head) (detected : Option (Nat × Nat))
  /-- R105: the level the detect has taken. -/
  | hotPlugChange (m : Monitor) (asserted : Bool)
  /-- R106, R117. -/
  | frameStart (m : Monitor)
  /-- R176. -/
  | confirmWindowExpiry
  /-- R171. -/
  | storeTableWritten
  /-- R171. -/
  | storeWriteFailed
  /-- R162 checks 0 and 1: the whole report as it arrived. -/
  | unknownCommand (c : Chan) (report : List Byte)
  /-- R165. -/
  | identify (c : Chan) (f : Frame)
  /-- R166. -/
  | readTable (c : Chan) (f : Frame)
  /-- R167. -/
  | writeTable (c : Chan) (f : Frame)
  /-- R169. -/
  | lockTable (c : Chan) (f : Frame)
  /-- R170. -/
  | signTable (c : Chan) (f : Frame)
  /-- R171. -/
  | saveStore (c : Chan) (f : Frame)
  /-- R173. -/
  | setPolicy (c : Chan) (f : Frame)
  /-- R177. -/
  | select (c : Chan) (f : Frame)
  /-- R177. -/
  | recallPreset (c : Chan) (f : Frame)
  /-- R115, R177. -/
  | setLayout (c : Chan) (f : Frame)
  /-- R177. -/
  | wake (c : Chan) (f : Frame)
  /-- R177. -/
  | playMacro (c : Chan) (f : Frame)
  /-- R178. -/
  | readState (c : Chan) (f : Frame)
  /-- R183. -/
  | readEvents (c : Chan) (f : Frame)
  /-- R183. -/
  | clearEvents (c : Chan) (f : Frame)
  /-- R179. -/
  | deskRestart (c : Chan) (f : Frame)
  deriving DecidableEq, Repr

end Sys2Proof
end

