-- ==== Sys2Proof/Decode.lean ====
section
/-! DEFINITION. The command that a word spells. No row of spec/opcode_table.json gives bits: a command is an arrival on a link, a port, a head, a monitor or a timer, never a word. -/

namespace Sys2Proof

/-- No word spells a command (log 11). -/
def decodeTableWord (_nbits _w : Nat) : Option Instr := none

end Sys2Proof
end

