-- ==== Sys2Proof/Machine/Records.lean ====
section
/-! DEFINITION. The records of the ten tables (R1, R44, R85, R100, R104, R113, R130, R163, R168) and their factory defaults. -/

namespace Sys2Proof.Machine

/-- The 23 events of R181, in the order of their numbers. -/
inductive Event where
  | deskStart
  | storeFault
  | linkUp
  | linkDown
  | suspended
  | resumed
  | wakeFailed
  | wakeDenied
  | holdOverflow
  | rollover
  | focusChanged
  | glideBarrier
  | hotkeyRefused
  | macroDone
  | macroAborted
  | layoutApplied
  | layoutRefused
  | mixRefused
  | headChanged
  | formatMismatch
  | monitorChanged
  | confirmDone
  | confirmExpired
  deriving DecidableEq, Repr

/-- All events in ascending number (R181). -/
def allEvents : List Event :=
  [.deskStart, .storeFault, .linkUp, .linkDown, .suspended, .resumed, .wakeFailed, .wakeDenied,
   .holdOverflow, .rollover, .focusChanged, .glideBarrier, .hotkeyRefused, .macroDone,
   .macroAborted, .layoutApplied, .layoutRefused, .mixRefused, .headChanged, .formatMismatch,
   .monitorChanged, .confirmDone, .confirmExpired]

/-- The number of an event (R181). -/
def eventNumber : Event → Nat
  | .deskStart => 1
  | .storeFault => 2
  | .linkUp => 3
  | .linkDown => 4
  | .suspended => 5
  | .resumed => 6
  | .wakeFailed => 7
  | .wakeDenied => 8
  | .holdOverflow => 9
  | .rollover => 10
  | .focusChanged => 11
  | .glideBarrier => 12
  | .hotkeyRefused => 13
  | .macroDone => 14
  | .macroAborted => 15
  | .layoutApplied => 16
  | .layoutRefused => 17
  | .mixRefused => 18
  | .headChanged => 19
  | .formatMismatch => 20
  | .monitorChanged => 21
  | .confirmDone => 22
  | .confirmExpired => 23

/-- A set of events as chapter 11 writes it: bit n - 1 stands for event n, bit 23 is zero. -/
abbrev EventSet := BitVec 24

/-- Membership of an event in a set. -/
def hasEvent (es : EventSet) (e : Event) : Bool := es.getLsbD (eventNumber e - 1)

/-- A set with one event added. -/
def addEvent (es : EventSet) (e : Event) : EventSet := es ||| BitVec.twoPow 24 (eventNumber e - 1)

/-- The set of the listed events. -/
def eventSet (l : List Event) : EventSet := l.foldl addEvent 0

/-- Pointer mode of a channel (R1). -/
inductive PointerMode where
  | absolute
  | relative
  deriving DecidableEq, Repr

/-- A CHANNELS record (R1). -/
structure ChannelRec where
  inCycle     : Bool
  pointerMode : PointerMode
  group       : Group
  keymap      : Fin 5
  wakeOnInput : Bool
  wakeOnFocus : Bool
  wakeTries   : Nat
  wakeWindow  : Nat
  width       : Nat
  height      : Nat
  deriving DecidableEq, Repr

/-- A HEADS record (R100). -/
structure HeadRec where
  owner  : Option Chan
  width  : Nat
  height : Nat
  ox     : Nat
  oy     : Nat
  deriving DecidableEq, Repr

/-- A MONITORS record (R104). -/
structure MonitorRec where
  enabled : Bool
  x       : Nat
  y       : Nat
  width   : Nat
  height  : Nat
  refresh : Nat
  deriving DecidableEq, Repr

/-- The rectangle of a monitor on the desk (R104). -/
def MonitorRec.rect (m : MonitorRec) : Rect := ⟨m.x, m.y, m.width, m.height⟩

/-- A head shown in a tile, with its source rectangle (R107). -/
structure HeadView where
  head   : Head
  source : Rect
  deriving DecidableEq, Repr

/-- A tile (R107): the content is a head with its source rectangle, or BLANK (`none`). -/
structure Tile where
  rect    : Rect
  content : Option HeadView
  deriving DecidableEq, Repr

/-- A layout: its tiles in the order given (R107). -/
abbrev Layout := List Tile

/-- A preset: one part per monitor, a layout or absent (R113). -/
abbrev Preset := Vector (Option Layout) 6

/-- The kinds of a HOTKEYS entry (R44). -/
inductive HotkeyKind where
  | chord
  | attention
  deriving DecidableEq, Repr

/-- The port condition of a HOTKEYS entry (R44). -/
inductive PortChoice where
  | only (p : Port)
  | any
  deriving DecidableEq, Repr

/-- The actions of R44 with their arguments; argument 0 of SELECT and WAKE, the focus channel, is `none`. -/
inductive Action where
  | select (c : Option Chan)
  | next
  | previous
  | pin
  | glideToggle
  | preset (p : Fin 16)
  | wake (c : Option Chan)
  | wakeAll
  | play (m : Fin 8)
  | confirm
  | cancel
  deriving DecidableEq, Repr

/-- A HOTKEYS entry (R44); modifier sets are bytes, bit 0 for code 224. -/
structure HotkeyEntry where
  enabled  : Bool
  kind     : HotkeyKind
  port     : PortChoice
  trigger  : Code
  compare  : Byte
  mask     : Byte
  sideFold : Bool
  action   : Action
  deriving DecidableEq, Repr

/-- A keymap: pairs of a from code and a to code, `none` for BLOCKED, in ascending from code (R31). -/
abbrev Keymap := List (Code × Option Code)

/-- A step of a macro (R85). -/
inductive MacroStep where
  | press (k : Code)
  | release (k : Code)
  | tap (k : Code)
  | pause (n : Nat)
  deriving DecidableEq, Repr

/-- A MACROS record (R85). -/
structure MacroRec where
  interval : Nat
  steps    : List MacroStep
  deriving DecidableEq, Repr

/-- The BALLISTICS record (R130). -/
structure Ballistics where
  g0   : Nat
  vb   : Nat
  k    : Nat
  gmax : Nat
  deriving DecidableEq, Repr

/-- The DESK record (R168, R182). -/
structure Desk where
  attentionCode : Code
  tapWindow     : Nat
  armWindow     : Nat
  dwell         : Nat
  glideDefault  : Bool
  defaultFocus  : Option Chan
  confirmWindow : Nat
  cueVolume     : Nat
  alertChannel  : Option Chan
  summarySlots  : Vector (Option Event) 8
  alertSet      : EventSet
  retainSet     : EventSet
  deriving DecidableEq, Repr

/-- The ten tables in use. -/
structure Tables where
  channels   : Vector ChannelRec 8
  authority  : Vector (Fin 4) 8
  heads      : Vector HeadRec 16
  monitors   : Vector MonitorRec 6
  presets    : Vector Preset 16
  hotkeys    : Vector HotkeyEntry 32
  keymaps    : Vector Keymap 4
  macros     : Vector MacroRec 8
  ballistics : Ballistics
  desk       : Desk
  deriving DecidableEq, Repr

/-- The tables by name, in the order of their ids 1 to 10. -/
inductive Table where
  | channels
  | authority
  | heads
  | monitors
  | presets
  | hotkeys
  | keymaps
  | macros
  | ballistics
  | desk
  deriving DecidableEq, Repr

/-- Every table, in ascending id. -/
def allTables : List Table :=
  [.channels, .authority, .heads, .monitors, .presets, .hotkeys, .keymaps, .macros, .ballistics,
   .desk]

/-- Position of a table among the ten; its id is one more (00, Numbering). -/
def tableIndex : Table → Fin 10
  | .channels => 0
  | .authority => 1
  | .heads => 2
  | .monitors => 3
  | .presets => 4
  | .hotkeys => 5
  | .keymaps => 6
  | .macros => 7
  | .ballistics => 8
  | .desk => 9

/-- The table of an id 1 to 10. -/
def tableOfId? (n : Nat) : Option Table := if n = 0 then none else allTables[n - 1]?

/-- The first record index of a table (R166). -/
def firstIndex : Table → Nat
  | .channels | .authority | .heads | .monitors | .keymaps | .macros => 1
  | .presets | .hotkeys | .ballistics | .desk => 0

/-- The number of records of a table (R166). -/
def recordCount : Table → Nat
  | .channels | .authority | .macros => 8
  | .heads | .presets => 16
  | .monitors => 6
  | .hotkeys => 32
  | .keymaps => 4
  | .ballistics | .desk => 1

/-- Bytes per record (11.4). -/
def recordBytes : Table → Nat
  | .channels => 10
  | .authority => 1
  | .heads => 9
  | .monitors => 10
  | .presets => 420
  | .hotkeys => 9
  | .keymaps => 129
  | .macros => 194
  | .ballistics => 7
  | .desk => 26

/-- The isolation policy's flags of the six pairs of distinct groups (R173), pair order of 11.3. -/
structure Policy where
  mix   : Vector Bool 6
  glide : Vector Bool 6
  deriving DecidableEq, Repr

/-- The position of a pair of distinct groups among (0,1), (0,2), (0,3), (1,2), (1,3), (2,3);
`none` on the diagonal. The matrix is symmetric (R173). -/
def pairIndex (a b : Group) : Option (Fin 6) :=
  match min a.val b.val, max a.val b.val with
  | 0, 1 => some 0
  | 0, 2 => some 1
  | 0, 3 => some 2
  | 1, 2 => some 3
  | 1, 3 => some 4
  | 2, 3 => some 5
  | _, _ => none

/-- A flag of the matrix; the diagonal is set at all times (R173). -/
def pairFlag (flags : Vector Bool 6) (a b : Group) : Bool :=
  match pairIndex a b with
  | none => true
  | some i => nth flags i

/-- MIX for a pair of groups. -/
def Policy.mixes (p : Policy) (a b : Group) : Bool := pairFlag p.mix a b

/-- GLIDE for a pair of groups. -/
def Policy.glides (p : Policy) (a b : Group) : Bool := pairFlag p.glide a b

/-- The power-on policy: the diagonal alone (R173). -/
def Policy.powerOn : Policy := ⟨Vector.replicate 6 false, Vector.replicate 6 false⟩

/-! ## Factory defaults -/

/-- R1. -/
def factoryChannel : ChannelRec :=
  { inCycle := true, pointerMode := .absolute, group := 0, keymap := 0, wakeOnInput := true,
    wakeOnFocus := true, wakeTries := 3, wakeWindow := 500, width := 1920, height := 1080 }

/-- R163. -/
def factoryAuthority : Vector (Fin 4) 8 := #v[0, 3, 3, 3, 3, 3, 3, 3]

/-- R100. -/
def factoryHead (h : Head) : HeadRec :=
  { owner := finOf? 8 h.val, width := 1920, height := 1080, ox := 0, oy := 0 }

/-- R104. -/
def factoryMonitor (m : Monitor) : MonitorRec :=
  { enabled := true, x := 1920 * m.val, y := 0, width := 1920, height := 1080, refresh := 60 }

/-- The part of factory preset 0 for monitor m (R113). -/
def factoryPart (m : Monitor) : Layout :=
  [{ rect := ⟨0, 0, 1920, 1080⟩,
     content := some { head := ⟨m.val, by omega⟩, source := ⟨0, 0, 1920, 1080⟩ } }]

/-- R113. -/
def factoryPreset (p : Fin 16) : Preset :=
  if p = 0 then Vector.ofFn fun m => some (factoryPart m) else Vector.replicate 6 none

/-- An enabled factory entry: kind ATTENTION, port ANY, empty compare and mask (R46). -/
def factoryAttention (trigger : Code) (a : Action) : HotkeyEntry :=
  { enabled := true, kind := .attention, port := .any, trigger := trigger, compare := 0, mask := 0,
    sideFold := false, action := a }

/-- A disabled factory entry (R46, entries 28 to 31). -/
def factoryDisabled : HotkeyEntry :=
  { enabled := false, kind := .chord, port := .any, trigger := 4, compare := 0, mask := 0,
    sideFold := false, action := .select none }

/-- R46. -/
def factoryHotkeys : Vector HotkeyEntry 32 :=
  #v[factoryAttention 30 (.select (some 0)), factoryAttention 31 (.select (some 1)),
     factoryAttention 32 (.select (some 2)), factoryAttention 33 (.select (some 3)),
     factoryAttention 34 (.select (some 4)), factoryAttention 35 (.select (some 5)),
     factoryAttention 36 (.select (some 6)), factoryAttention 37 (.select (some 7)),
     factoryAttention 79 .next, factoryAttention 80 .previous,
     factoryAttention 19 .pin, factoryAttention 10 .glideToggle,
     factoryAttention 26 (.wake none), factoryAttention 4 .wakeAll,
     factoryAttention 40 .confirm, factoryAttention 41 .cancel,
     factoryAttention 58 (.preset 0), factoryAttention 59 (.preset 1),
     factoryAttention 60 (.preset 2), factoryAttention 61 (.preset 3),
     factoryAttention 62 (.play 0), factoryAttention 63 (.play 1),
     factoryAttention 64 (.play 2), factoryAttention 65 (.play 3),
     factoryAttention 66 (.play 4), factoryAttention 67 (.play 5),
     factoryAttention 68 (.play 6), factoryAttention 69 (.play 7),
     factoryDisabled, factoryDisabled, factoryDisabled, factoryDisabled]

/-- R85. -/
def factoryMacro : MacroRec := { interval := 8, steps := [.pause 0] }

/-- R130. -/
def factoryBallistics : Ballistics := { g0 := 256, vb := 8, k := 32, gmax := 768 }

/-- R168, R182. -/
def factoryDesk : Desk :=
  { attentionCode := 71, tapWindow := 400, armWindow := 2000, dwell := 150, glideDefault := true,
    defaultFocus := some 0, confirmWindow := 10, cueVolume := 2, alertChannel := none,
    summarySlots := #v[some .focusChanged, some .linkDown, some .wakeFailed, some .holdOverflow,
      some .glideBarrier, some .mixRefused, some .confirmExpired, some .storeFault],
    alertSet := eventSet [.storeFault, .linkDown, .wakeFailed, .holdOverflow, .confirmExpired],
    retainSet := eventSet [.storeFault] }

/-- The ten factory tables. -/
def factoryTables : Tables :=
  { channels := Vector.replicate 8 factoryChannel
    authority := factoryAuthority
    heads := Vector.ofFn factoryHead
    monitors := Vector.ofFn factoryMonitor
    presets := Vector.ofFn factoryPreset
    hotkeys := factoryHotkeys
    keymaps := Vector.replicate 4 []
    macros := Vector.replicate 8 factoryMacro
    ballistics := factoryBallistics
    desk := factoryDesk }

end Sys2Proof.Machine
end

