-- ==== Sys2Proof/Config.lean ====
section
/-! DEFINITION. What an implementation fixes and the manual leaves open: constants without a body. -/

namespace Sys2Proof

/-- The silicon revision less one: "a number 1 to 255" (R165). Free: nothing is known of it but its range (log 3). -/
opaque Config.revisionIndex : Fin 255

/-- What the store holds of a table whose write it reported as failed: some bytes, or no copy. R171 does not say. Free, a
new value at each failure (log 4). -/
opaque Config.storeAfterFailure : Nat → Option (List Byte)

end Sys2Proof
end

