-- ==== Sys2Proof/Machine/Formats.lean ====
section
/-! DEFINITION. The record images of 11.4 and their reading (R185), the well-formedness of a layout (R107), the table images and the signature (R186). -/

namespace Sys2Proof.Machine

/-! ## Bytes and numbers -/

/-- The low eight bits of a number. -/
def byteOf (n : Nat) : Byte := BitVec.ofNat 8 n

/-- A two-byte number, less significant byte first (chapter 11). -/
def word16 (n : Nat) : List Byte := [byteOf n, byteOf (n / 256)]

/-- The byte at an offset, as a number. -/
def byteAt (bs : List Byte) (i : Nat) : Nat := (bs.getD i 0).toNat

/-- The two-byte number at an offset (chapter 11). -/
def wordAt (bs : List Byte) (i : Nat) : Nat := byteAt bs i + 256 * byteAt bs (i + 1)

/-- A yes-or-no byte. -/
def flagByte (b : Bool) : Byte := if b then 1 else 0

/-- A yes-or-no byte read back; another value is a structural fault (R185). -/
def flagOf? : Nat → Option Bool
  | 0 => some false
  | 1 => some true
  | _ => none

/-- A list of bytes filled with zeros to a length. -/
def padTo (n : Nat) (bs : List Byte) : List Byte := bs ++ List.replicate (n - bs.length) 0

/-- All bytes are zero (R185). -/
def allZero (bs : List Byte) : Bool := bs.all (· == 0)

/-- `len` bytes from an offset. -/
def slice (bs : List Byte) (off len : Nat) : List Byte := (bs.drop off).take len

/-- `n` pieces of `w` bytes each. -/
def chunks (w : Nat) : Nat → List Byte → List (List Byte)
  | 0, _ => []
  | n + 1, bs => bs.take w :: chunks w n (bs.drop w)

/-- The values of a list whose entries are all present. -/
def allSome {α : Type} : List (Option α) → Option (List α)
  | [] => some []
  | none :: _ => none
  | some a :: t => (allSome t).map (a :: ·)

/-- A numeric setting brought to the nearest bound of its range (R167). -/
def clampTo (lo hi n : Nat) : Nat := max lo (min hi n)

/-- A value lies in a range, both ends included. -/
def inRange (lo hi n : Nat) : Bool := lo ≤ n && n ≤ hi

/-- The event of a number 1 to 23 (R181). -/
def eventOfNumber? (n : Nat) : Option Event := if n = 0 then none else allEvents[n - 1]?

/-- The three bytes of an event set (chapter 11). -/
def eventSetBytes (es : EventSet) : List Byte :=
  [byteOf es.toNat, byteOf (es.toNat / 256), byteOf (es.toNat / 65536)]

/-- An event set at an offset; bit 23 must be zero (R185). -/
def eventSetAt? (bs : List Byte) (i : Nat) : Option EventSet :=
  if byteAt bs (i + 2) < 128 then
    some (BitVec.ofNat 24 (byteAt bs i + 256 * byteAt bs (i + 1) + 65536 * byteAt bs (i + 2)))
  else none

/-! ## Layouts -/

/-- A rectangle of a tile or a source within the largest size (R107). -/
def rectInBounds (r : Rect) : Bool :=
  1 ≤ r.w && 1 ≤ r.h && r.x + r.w ≤ 7680 && r.y + r.h ≤ 4320

/-- A tile's own part of R107. -/
def tileWellFormed (t : Tile) : Bool :=
  rectInBounds t.rect && (match t.content with
    | none => true
    | some v => rectInBounds v.source)

/-- No two tiles share any point (R107). -/
def tilesDisjoint : List Tile → Bool
  | [] => true
  | t :: ts => ts.all (fun u => !t.rect.meets u.rect) && tilesDisjoint ts

/-- R107. -/
def layoutWellFormed (l : Layout) : Bool :=
  inRange 1 4 l.length && l.all tileWellFormed && tilesDisjoint l

/-- Four two-byte numbers. -/
def rectImage (r : Rect) : List Byte := word16 r.x ++ word16 r.y ++ word16 r.w ++ word16 r.h

/-- The rectangle at an offset. -/
def rectAt (bs : List Byte) (i : Nat) : Rect :=
  ⟨wordAt bs i, wordAt bs (i + 2), wordAt bs (i + 4), wordAt bs (i + 6)⟩

/-- A tile entry of 17 bytes (11.4). -/
def tileImage (t : Tile) : List Byte :=
  match t.content with
  | none => rectImage t.rect ++ List.replicate 9 0
  | some v => rectImage t.rect ++ byteOf (v.head.val + 1) :: rectImage v.source

/-- A tile entry read (R185): content 0 is BLANK, whose source bytes must be zero. -/
def parseTile (bs : List Byte) : Option Tile :=
  if byteAt bs 8 = 0 then
    if allZero (slice bs 9 8) then some { rect := rectAt bs 0, content := none } else none
  else
    match oneBased? 16 (byteAt bs 8) with
    | none => none
    | some h => some { rect := rectAt bs 0, content := some { head := h, source := rectAt bs 9 } }

/-- A layout image of 69 bytes (11.4). -/
def layoutImage (l : Layout) : List Byte :=
  padTo 69 (byteOf l.length :: l.flatMap tileImage)

/-- A layout image read: a tile count 1 to 4, entries beyond it zero (R185), and well formed (R107). -/
def parseLayout (bs : List Byte) : Option Layout :=
  let n := byteAt bs 0
  if inRange 1 4 n && allZero (bs.drop (1 + 17 * n)) then
    match allSome ((chunks 17 n (bs.drop 1)).map parseTile) with
    | none => none
    | some l => if layoutWellFormed l then some l else none
  else none

/-! ## Records. A parser answers the record and whether a numeric setting was clamped; `none` is a structural fault. -/

def channelImage (r : ChannelRec) : List Byte :=
  byteOf ((if r.inCycle then 1 else 0) + (if r.pointerMode = .relative then 2 else 0)
      + (if r.wakeOnInput then 4 else 0) + (if r.wakeOnFocus then 8 else 0))
    :: byteOf r.group.val :: byteOf r.keymap.val :: byteOf r.wakeTries
    :: (word16 r.wakeWindow ++ word16 r.width ++ word16 r.height)

/-- R1. A set bit among bits 4 to 7 of byte 0, which 11.4 does not name, is taken as a structural fault (DESIGN CHOICE, log
29). -/
def parseChannel (bs : List Byte) : Option (ChannelRec × Bool) :=
  let flags := byteAt bs 0
  let tries := clampTo 1 4 (byteAt bs 3)
  let window := clampTo 100 2000 (wordAt bs 4)
  if flags < 16 && inRange 2 16384 (wordAt bs 6) && inRange 2 16384 (wordAt bs 8) then
    match finOf? 4 (byteAt bs 1), finOf? 5 (byteAt bs 2) with
    | some g, some km =>
      some ({ inCycle := flags.testBit 0
              pointerMode := if flags.testBit 1 then .relative else .absolute
              group := g
              keymap := km
              wakeOnInput := flags.testBit 2
              wakeOnFocus := flags.testBit 3
              wakeTries := tries
              wakeWindow := window
              width := wordAt bs 6
              height := wordAt bs 8 },
            tries != byteAt bs 3 || window != wordAt bs 4)
    | _, _ => none
  else none

def authorityImage (floor : Fin 4) : List Byte := [byteOf floor.val]

/-- R163: a floor is not clamped. -/
def parseAuthority (bs : List Byte) : Option (Fin 4 × Bool) :=
  (finOf? 4 (byteAt bs 0)).map (·, false)

def headImage (r : HeadRec) : List Byte :=
  byteOf (numberOrZero r.owner)
    :: (word16 r.width ++ word16 r.height ++ word16 r.ox ++ word16 r.oy)

/-- An optional object numbered from 1, 0 for NONE; another number is out of range. -/
def optionOf? (n k : Nat) : Option (Option (Fin n)) :=
  if k = 0 then some none else (oneBased? n k).map some

/-- R100. -/
def parseHead (bs : List Byte) : Option (HeadRec × Bool) :=
  if inRange 1 7680 (wordAt bs 1) && inRange 1 4320 (wordAt bs 3) && wordAt bs 5 ≤ 16383
      && wordAt bs 7 ≤ 16383 then
    (optionOf? 8 (byteAt bs 0)).map fun o =>
      ({ owner := o, width := wordAt bs 1, height := wordAt bs 3, ox := wordAt bs 5,
         oy := wordAt bs 7 }, false)
  else none

def monitorImage (r : MonitorRec) : List Byte :=
  flagByte r.enabled
    :: (word16 r.x ++ word16 r.y ++ word16 r.width ++ word16 r.height ++ [byteOf r.refresh])

/-- R104: the record's own ranges and the desk range. -/
def parseMonitor (bs : List Byte) : Option (MonitorRec × Bool) :=
  let refresh := clampTo 24 144 (byteAt bs 9)
  if wordAt bs 1 ≤ 32767 && wordAt bs 3 ≤ 32767 && inRange 1 7680 (wordAt bs 5)
      && inRange 1 4320 (wordAt bs 7) && wordAt bs 1 + wordAt bs 5 ≤ 32768
      && wordAt bs 3 + wordAt bs 7 ≤ 32768 then
    (flagOf? (byteAt bs 0)).map fun e =>
      ({ enabled := e, x := wordAt bs 1, y := wordAt bs 3, width := wordAt bs 5,
         height := wordAt bs 7, refresh := refresh }, refresh != byteAt bs 9)
  else none

def partImage (part : Option Layout) : List Byte :=
  match part with
  | none => List.replicate 70 0
  | some l => 1 :: layoutImage l

/-- One part of a preset; an absent part is all zero (R185). -/
def parsePart (bs : List Byte) : Option (Option Layout) :=
  match flagOf? (byteAt bs 0) with
  | none => none
  | some false => if allZero bs then some none else none
  | some true => (parseLayout (bs.drop 1)).map some

def presetImage (p : Preset) : List Byte := p.toList.flatMap partImage

/-- R113. -/
def parsePreset (bs : List Byte) : Option (Preset × Bool) :=
  match (chunks 70 6 bs).map parsePart with
  | [some a, some b, some c, some d, some e, some f] => some (#v[a, b, c, d, e, f], false)
  | _ => none

/-- The action's number and its argument byte (R44, 11.4). -/
def actionCode : Action → Nat × Nat
  | .select c => (1, numberOrZero c)
  | .next => (2, 0)
  | .previous => (3, 0)
  | .pin => (4, 0)
  | .glideToggle => (5, 0)
  | .preset p => (6, p.val)
  | .wake c => (7, numberOrZero c)
  | .wakeAll => (8, 0)
  | .play m => (9, m.val + 1)
  | .confirm => (10, 0)
  | .cancel => (11, 0)

/-- An action that takes no argument demands a zero argument byte (R45). -/
def plainAction (a : Action) (arg : Nat) : Option Action := if arg = 0 then some a else none

/-- R44, R45. -/
def actionOf? (n arg : Nat) : Option Action :=
  match n with
  | 1 => (optionOf? 8 arg).map .select
  | 2 => plainAction .next arg
  | 3 => plainAction .previous arg
  | 4 => plainAction .pin arg
  | 5 => plainAction .glideToggle arg
  | 6 => (finOf? 16 arg).map .preset
  | 7 => (optionOf? 8 arg).map .wake
  | 8 => plainAction .wakeAll arg
  | 9 => (oneBased? 8 arg).map .play
  | 10 => plainAction .confirm arg
  | 11 => plainAction .cancel arg
  | _ => none

def kindByte : HotkeyKind → Byte
  | .chord => 0
  | .attention => 1

def kindOf? : Nat → Option HotkeyKind
  | 0 => some .chord
  | 1 => some .attention
  | _ => none

def portByte : PortChoice → Byte
  | .only .key => 0
  | .only .aux => 1
  | .any => 2

def portOf? : Nat → Option PortChoice
  | 0 => some (.only .key)
  | 1 => some (.only .aux)
  | 2 => some .any
  | _ => none

def hotkeyImage (h : HotkeyEntry) : List Byte :=
  [flagByte h.enabled, kindByte h.kind, portByte h.port, byteOf h.trigger, h.compare, h.mask,
   flagByte h.sideFold, byteOf (actionCode h.action).1, byteOf (actionCode h.action).2]

/-- R45. -/
def parseHotkey (bs : List Byte) : Option (HotkeyEntry × Bool) :=
  match flagOf? (byteAt bs 0), kindOf? (byteAt bs 1), portOf? (byteAt bs 2),
      flagOf? (byteAt bs 6), actionOf? (byteAt bs 7) (byteAt bs 8) with
  | some en, some kd, some p, some fold, some a =>
    if isOrdinary (byteAt bs 3) then
      some ({ enabled := en, kind := kd, port := p, trigger := byteAt bs 3,
              compare := bs.getD 4 0, mask := bs.getD 5 0, sideFold := fold, action := a }, false)
    else none
  | _, _, _, _, _ => none

/-- A from code, a to code, a macro operand: an ordinary key or a modifier. -/
def isKeyCode (k : Code) : Bool := isOrdinary k || isModifier k

def keymapImage (km : Keymap) : List Byte :=
  padTo 129 (byteOf km.length :: km.flatMap fun p => [byteOf p.1, byteOf (p.2.getD 0)])

/-- A pair of a keymap (R31): both codes key codes, modifier to modifier and ordinary to ordinary, or BLOCKED. -/
def parsePair (bs : List Byte) : Option (Code × Option Code) :=
  let a := byteAt bs 0
  let b := byteAt bs 1
  if isKeyCode a then
    if b = 0 then some (a, none)
    else if isKeyCode b && isModifier a == isModifier b then some (a, some b)
    else none
  else none

/-- A pair placed in ascending from code (R31); a from code already there is answered `none`. -/
def insertPair (p : Code × Option Code) : Keymap → Option Keymap
  | [] => some [p]
  | q :: t =>
    if p.1 < q.1 then some (p :: q :: t)
    else if p.1 = q.1 then none
    else (insertPair p t).map (q :: ·)

/-- The pairs in ascending from code, or `none` when a from code is repeated (R31). -/
def sortPairs : Keymap → Option Keymap
  | [] => some []
  | p :: t => (sortPairs t).bind (insertPair p)

/-- R31. -/
def parseKeymap (bs : List Byte) : Option (Keymap × Bool) :=
  let n := byteAt bs 0
  if n ≤ 64 && allZero (bs.drop (1 + 2 * n)) then
    match allSome ((chunks 2 n (bs.drop 1)).map parsePair) with
    | none => none
    | some l => (sortPairs l).map (·, false)
  else none

def stepImage : MacroStep → List Byte
  | .press k => 1 :: word16 k
  | .release k => 2 :: word16 k
  | .tap k => 3 :: word16 k
  | .pause n => 4 :: word16 n

def macroImage (m : MacroRec) : List Byte :=
  padTo 194 (byteOf m.interval :: byteOf m.steps.length :: m.steps.flatMap stepImage)

/-- A step of a macro (R86); a pause above 2000 is clamped. -/
def parseStep (bs : List Byte) : Option (MacroStep × Bool) :=
  let v := wordAt bs 1
  match byteAt bs 0 with
  | 1 => if isKeyCode v then some (.press v, false) else none
  | 2 => if isKeyCode v then some (.release v, false) else none
  | 3 => if isKeyCode v then some (.tap v, false) else none
  | 4 => some (.pause (min v 2000), v > 2000)
  | _ => none

/-- R86. -/
def parseMacro (bs : List Byte) : Option (MacroRec × Bool) :=
  let n := byteAt bs 1
  let interval := clampTo 1 50 (byteAt bs 0)
  if inRange 1 64 n && allZero (bs.drop (2 + 3 * n)) then
    (allSome ((chunks 3 n (bs.drop 2)).map parseStep)).map fun l =>
      ({ interval := interval, steps := l.map (·.1) },
       interval != byteAt bs 0 || l.any (·.2))
  else none

def ballisticsImage (b : Ballistics) : List Byte :=
  word16 b.g0 ++ [byteOf b.vb] ++ word16 b.k ++ word16 b.gmax

/-- R130: GMAX is clamped into the range from the G0 so obtained. -/
def parseBallistics (bs : List Byte) : Option (Ballistics × Bool) :=
  let g0 := clampTo 16 2048 (wordAt bs 0)
  let vb := clampTo 0 255 (byteAt bs 2)
  let k := clampTo 0 1024 (wordAt bs 3)
  let gmax := clampTo g0 4096 (wordAt bs 5)
  some ({ g0 := g0, vb := vb, k := k, gmax := gmax },
    g0 != wordAt bs 0 || vb != byteAt bs 2 || k != wordAt bs 3 || gmax != wordAt bs 5)

/-- The byte of a summary slot (R182): the event's number, 0 for none. -/
def summarySlotByte (e : Option Event) : Byte :=
  match e with
  | none => 0
  | some e => byteOf (eventNumber e)

/-- The event of a summary slot byte. -/
def summarySlotOf? (n : Nat) : Option (Option Event) :=
  if n = 0 then some none else (eventOfNumber? n).map some

def deskImage (d : Desk) : List Byte :=
  byteOf d.attentionCode :: (word16 d.tapWindow ++ word16 d.armWindow ++ word16 d.dwell
    ++ [flagByte d.glideDefault, byteOf (numberOrZero d.defaultFocus), byteOf d.confirmWindow,
        byteOf d.cueVolume, byteOf (numberOrZero d.alertChannel)]
    ++ d.summarySlots.toList.map summarySlotByte ++ eventSetBytes d.alertSet
    ++ eventSetBytes d.retainSet)

/-- The eight summary slots at an offset. -/
def summarySlotsAt? (bs : List Byte) (i : Nat) : Option (Vector (Option Event) 8) :=
  match ((slice bs i 8).map fun b => summarySlotOf? b.toNat) with
  | [some a, some b, some c, some d, some e, some f, some g, some h] =>
    some #v[a, b, c, d, e, f, g, h]
  | _ => none

/-- R168. -/
def parseDesk (bs : List Byte) : Option (Desk × Bool) :=
  let tap := clampTo 100 1000 (wordAt bs 1)
  let arm := clampTo 500 5000 (wordAt bs 3)
  let dwell := clampTo 0 1000 (wordAt bs 5)
  let confirm := clampTo 2 30 (byteAt bs 9)
  let volume := clampTo 0 3 (byteAt bs 10)
  if byteAt bs 0 = 0 || isOrdinary (byteAt bs 0) then
    match flagOf? (byteAt bs 7), optionOf? 8 (byteAt bs 8), optionOf? 8 (byteAt bs 11),
        summarySlotsAt? bs 12, eventSetAt? bs 20, eventSetAt? bs 23 with
    | some glide, some focus, some alert, some slots, some alerts, some retain =>
      some ({ attentionCode := byteAt bs 0, tapWindow := tap, armWindow := arm, dwell := dwell,
              glideDefault := glide, defaultFocus := focus, confirmWindow := confirm,
              cueVolume := volume, alertChannel := alert, summarySlots := slots,
              alertSet := alerts, retainSet := retain },
            tap != wordAt bs 1 || arm != wordAt bs 3 || dwell != wordAt bs 5
              || confirm != byteAt bs 9 || volume != byteAt bs 10)
    | _, _, _, _, _, _ => none
  else none

/-! ## Tables -/

/-- The record images of a table in ascending index (11.4). -/
def recordImages (t : Table) (T : Tables) : List (List Byte) :=
  match t with
  | .channels => T.channels.toList.map channelImage
  | .authority => T.authority.toList.map authorityImage
  | .heads => T.heads.toList.map headImage
  | .monitors => T.monitors.toList.map monitorImage
  | .presets => T.presets.toList.map presetImage
  | .hotkeys => T.hotkeys.toList.map hotkeyImage
  | .keymaps => T.keymaps.toList.map keymapImage
  | .macros => T.macros.toList.map macroImage
  | .ballistics => [ballisticsImage T.ballistics]
  | .desk => [deskImage T.desk]

/-- A table image: its records concatenated in ascending index (11.4). -/
def tableImage (t : Table) (T : Tables) : List Byte := (recordImages t T).flatten

/-- Steps of R186 for one bit. -/
def crcShift (r : BitVec 16) : BitVec 16 :=
  if r.msb then (r <<< 1) ^^^ 0x1021#16 else r <<< 1

/-- Eight shifts (R186). -/
def crcShifts : Nat → BitVec 16 → BitVec 16
  | 0, r => r
  | n + 1, r => crcShifts n (crcShift r)

/-- One byte combined into the remainder (R186). -/
def crcByte (r : BitVec 16) (b : Byte) : BitVec 16 := crcShifts 8 (r ^^^ (b.setWidth 16 <<< 8))

/-- The signature of a list of bytes (R186). -/
def signature (bs : List Byte) : BitVec 16 := bs.foldl crcByte 0xFFFF#16

/-- The signature of a table (R170, R186). -/
def tableSignature (t : Table) (T : Tables) : BitVec 16 := signature (tableImage t T)

/-- A signature as the store holds it: two bytes, the less significant first (R186). -/
def signatureBytes (g : BitVec 16) : List Byte := word16 g.toNat

/-- What a save writes of a table: its image, and after it the signature of that image (R171, R186). -/
def storeImage (t : Table) (T : Tables) : List Byte :=
  tableImage t T ++ signatureBytes (tableSignature t T)

/-- The number of bytes of a table's image (11.4). -/
def imageBytes (t : Table) : Nat := recordCount t * recordBytes t

/-- The signature that a stored copy carries after its image (R186). -/
def storedSignature (t : Table) (copy : List Byte) : BitVec 16 :=
  BitVec.ofNat 16 (wordAt copy (imageBytes t))

end Sys2Proof.Machine
end

