-- ==== Sys2Proof/Machine/State.lean ====
section
/-! DEFINITION. The state of the part as plain data, unit by unit (00, Block overview), the reasons a step can stop, and the state after reset. -/

namespace Sys2Proof.Machine

/-! ## Link Controller (chapter 01) -/

/-- Link states (1.2). -/
inductive LinkState where
  | detached
  | active
  | suspended
  | waking
  deriving DecidableEq, Repr

/-- A hold queue item (R11). `named` says whether the item's press still names the present key-down entry of
(port, code), or the present button-table entry of the button; no means that its press is none. -/
inductive HoldItem where
  | keyDown (p : Port) (code translated : Code) (named : Bool)
  | keyUp (p : Port) (code translated : Code) (settled : Bool)
  | buttonDown (b : Button) (named : Bool)
  | buttonUp (b : Button) (settled : Bool)
  | modHandover (p : Port) (code translated : Code) (named : Bool)
  deriving DecidableEq, Repr

/-- What the Link Controller keeps for one channel; `window` is the length of the running wake window. -/
structure Link where
  state      : LinkState
  remoteWake : Bool
  permission : Bool
  window     : Option Nat
  tries      : Nat
  queue      : List HoldItem
  reserved   : Nat
  leds       : BitVec 5
  deriving DecidableEq, Repr

/-- R21. -/
def Link.reset : Link :=
  { state := .detached, remoteWake := false, permission := false, window := none, tries := 0,
    queue := [], reserved := 0, leds := 0 }

/-! ## Console Input Unit (2.1, 7.1) -/

/-- The states of a console port (2.1, R124). -/
inductive PortState where
  | absent
  | active
  | rejected
  deriving DecidableEq, Repr

/-- A keyboard port: `last` is the last accepted report as a set of codes, ascending (R25). -/
structure KeyPort where
  state : PortState
  last  : List Code
  deriving DecidableEq, Repr

/-- The pointer port with its last button set (R125). -/
structure PointerPort where
  state : PortState
  last  : Vector Bool 5
  deriving DecidableEq, Repr

/-- The three console ports. -/
structure Console where
  key : KeyPort
  aux : KeyPort
  ptr : PointerPort
  deriving DecidableEq, Repr

/-! ## Key Router (chapter 02) -/

/-- Whether a press reached its channel or waits in its queue (R28, R128). -/
inductive Delivery where
  | delivered
  | queued
  deriving DecidableEq, Repr

/-- The target of a key-down entry (R28); the translated code (`none` for BLOCKED) and the state are present while
the target is a channel. -/
inductive KeyTarget where
  | consumed
  | pendingTap
  | channel (c : Chan) (translated : Option Code) (st : Delivery)
  deriving DecidableEq, Repr

/-- A key-down entry (R28). -/
structure KeyEntry where
  port   : Port
  code   : Code
  target : KeyTarget
  deriving DecidableEq, Repr

/-- The pressed counts of one channel: the codes with a count of at least 1, ascending, each with its count (R38). -/
abbrev Counts := List (Code × Nat)

/-- The key-down table, in ascending code and KEY before AUX (the table has no observable order, R28), and the pressed
counts of the eight channels. -/
structure Router where
  entries : List KeyEntry
  counts  : Vector Counts 8
  deriving DecidableEq, Repr

/-! ## Hotkey Matcher (3.3) -/

/-- The attention machine; a window is given by the length it was started with. -/
inductive Attention where
  | idle
  | tapDown (code : Code) (p : Port)
  | tapUp (code : Code) (p : Port) (window : Nat)
  | armed (window : Nat)
  deriving DecidableEq, Repr

/-! ## Focus Controller (chapters 04 and 08) -/

/-- The four cues (R80). -/
inductive Cue where
  | switch
  | refused
  | wait
  | fail
  deriving DecidableEq, Repr

/-- A cue being played: the element of its pattern now sounding, counted from 0, and the captured volume (4.6). -/
structure Playing where
  cue     : Cue
  element : Nat
  volume  : Nat
  deriving DecidableEq, Repr

/-- A pending dwell (R149). -/
structure Dwell where
  candidate : Chan
  length    : Nat
  deriving DecidableEq, Repr

/-- The focus record (R68), the glide record (R149), the cue generator (4.6) and the pulse of SLEEP lamps (R78). -/
structure Focus where
  channel      : Option Chan
  pinned       : Bool
  glideEnabled : Bool
  dwell        : Option Dwell
  cue          : Option Playing
  pulse        : Bool
  deriving DecidableEq, Repr

/-! ## Pointer Engine (chapter 07) -/

/-- The entry of a held button (R128). -/
inductive ButtonTarget where
  | consumed
  | channel (c : Chan) (st : Delivery)
  deriving DecidableEq, Repr

/-- The desk pointer (R127), the button table and the button states (R128), the last absolute positions (R129). -/
structure Pointer where
  x       : Nat
  y       : Nat
  fx      : Int
  fy      : Int
  parked  : Bool
  channel : Option Chan
  buttons : Vector (Option ButtonTarget) 5
  held    : Vector (Vector Bool 5) 8
  lastAbs : Vector (Option (Nat × Nat)) 8
  deriving DecidableEq, Repr

/-! ## Display Matrix (chapter 06) -/

/-- The origin of a layout (R116). -/
inductive Origin where
  | preset (p : Fin 16)
  | setLayout
  | blankDefault
  deriving DecidableEq, Repr

/-- What a tile's part of a frame shows (R110); a head's picture with the detected size it is taken from (R112). -/
inductive Shown where
  | blank
  | noSignal
  | asleep
  | picture (v : HeadView) (width height : Nat)
  deriving DecidableEq, Repr

/-- The picture of the frame now on an output, fixed at its frame start (R106, R110). -/
structure Picture where
  width  : Nat
  height : Nat
  tiles  : List (Rect × Shown)
  deriving DecidableEq, Repr

/-- A monitor's runtime (R105, R116): `waiting` is the pending layout with its origin. -/
structure MonitorRun where
  connected    : Bool
  active       : Layout
  activeOrigin : Origin
  waiting      : Option (Layout × Origin)
  picture      : Option Picture
  deriving DecidableEq, Repr

/-- Head signals (`none` is NO_SIGNAL, R101) and monitor runtimes. -/
structure Display where
  heads    : Vector (Option (Nat × Nat)) 16
  monitors : Vector MonitorRun 6
  deriving DecidableEq, Repr

/-! ## Macro Player (chapter 05) -/

/-- The player record while it serves a channel (R87); IDLE is the absence of the record. The step timer runs exactly
while `playing`. The record's steps skipped are `State.skipped`, which outlives the playing (R90). -/
structure Player where
  playing  : Bool
  number   : Fin 8
  chan     : Chan
  copy     : MacroRec
  index    : Nat
  tapHalf  : Option Code
  wait     : Nat
  pressed  : List Code
  deriving DecidableEq, Repr

/-! ## Management Unit (chapters 09 and 10) -/

/-- Response statuses, in the order of 9.1. -/
inductive Status where
  | ok
  | okAdjusted
  | denied
  | locked
  | invalid
  | busy
  | working
  | pendingConfirm
  | declined
  | expired
  | unknownCommand
  | storeFault
  deriving DecidableEq, Repr

/-- The deferred outcome a response waits for (R164). -/
inductive Awaits where
  | confirm
  | save
  deriving DecidableEq, Repr

/-- A response (R161) as the slot keeps it. `awaits` is set while the response is the WORKING or PENDING_CONFIRM
written when its request was taken (R164). -/
structure Response where
  tag      : Byte
  status   : Status
  summary  : Byte
  adjusted : Bool
  payload  : List Byte
  awaits   : Option Awaits
  deriving DecidableEq, Repr

/-- The two kinds of confirm-class request (R162). -/
inductive ConfirmKind where
  | authorityWrite
  | setPolicy
  deriving DecidableEq, Repr

/-- A PENDING confirm record (R174); the frame copy carries the tag. -/
structure Confirm where
  chan   : Chan
  kind   : ConfirmKind
  frame  : Frame
  window : Nat
  deriving DecidableEq, Repr

/-- A save in progress (R171): requester, tag, snapshot of the tables, the table being written. -/
structure Save where
  chan     : Chan
  tag      : Byte
  snapshot : Tables
  writing  : Table
  deriving DecidableEq, Repr

/-- The Management Unit's state (R180, R184). -/
structure Mgmt where
  locks            : Vector Bool 10
  policy           : Policy
  policyWritten    : Bool
  confirm          : Option Confirm
  slots            : Vector (Option Response) 8
  save             : Option Save
  signatures       : Vector (Option (BitVec 16)) 10
  latch            : EventSet
  alertOutstanding : Bool
  deriving DecidableEq, Repr

/-! ## The whole -/

/-- What the external store holds of one table: the bytes of an image and then the two bytes of its signature, the less
significant first (9.5, R186); an entry without a copy is blank or incomplete (log 5). -/
abbrev StoreCopy := List Byte

/-- What left the part (the model's output log, log 10). -/
inductive Sent where
  /-- A report or an answer on an interface of a channel link (R3, R20). -/
  | report (c : Chan) (i : Interface) (bytes : List Byte)
  /-- A wake attempt signalled on a channel link (R7). -/
  | wakeSignal (c : Chan)
  /-- An LED output report to a console keyboard (R27). -/
  | consoleLeds (p : Port) (lamps : Byte)
  deriving DecidableEq, Repr

/-- The state of the part. `skipped` is the player's steps skipped, which READ_STATE shows until the next start (R87, R90,
log 16). The last three fields are the model's own: the counter of free values (log 4), the output log (log 10) and the
queue of waiting commands, first in first out (log 11). -/
structure State where
  tables    : Tables
  console   : Console
  router    : Router
  attention : Attention
  focus     : Focus
  pointer   : Pointer
  display   : Display
  links     : Vector Link 8
  player    : Option Player
  skipped   : Nat
  mgmt      : Mgmt
  store     : Vector (Option StoreCopy) 10
  free      : Nat
  sent      : List Sent
  pending   : List Instr
  deriving DecidableEq, Repr

/-- Why a step faults: the spec stops the part for nothing, so there is no fault. -/
inductive Fault where
  deriving DecidableEq, Repr

/-- Why a step is refused. -/
inductive Refusal where
  /-- Raised by exec for a command that has no meaning in the model; safe. No arm raises it. -/
  | notModelled (mnemonic : String)
  deriving DecidableEq, Repr

/-! ## Values after reset -/

/-- R42, R147. -/
def Console.reset : Console :=
  { key := ⟨.absent, []⟩, aux := ⟨.absent, []⟩, ptr := ⟨.absent, Vector.replicate 5 false⟩ }

/-- R42. -/
def Router.reset : Router := { entries := [], counts := Vector.replicate 8 [] }

/-- R82, R159; the pulse phase is dark (DESIGN CHOICE, log 2). -/
def Focus.reset (d : Desk) : Focus :=
  { channel := d.defaultFocus, pinned := false, glideEnabled := d.glideDefault, dwell := none,
    cue := none, pulse := false }

/-- R147, before the power-on desk notice. -/
def Pointer.reset : Pointer :=
  { x := 0, y := 0, fx := 0, fy := 0, parked := true, channel := none,
    buttons := Vector.replicate 5 none,
    held := Vector.replicate 8 (Vector.replicate 5 false),
    lastAbs := Vector.replicate 8 none }

/-- R180, with the stored signatures of the load. -/
def Mgmt.reset (signatures : Vector (Option (BitVec 16)) 10) : Mgmt :=
  { locks := Vector.replicate 10 false, policy := .powerOn, policyWritten := false,
    confirm := none, slots := Vector.replicate 8 none, save := none, signatures := signatures,
    latch := 0, alertOutstanding := false }

/-- The table at a position among the ten. -/
def tableAt (i : Fin 10) : Table := allTables.getD i.val .channels

/-- A store that holds the factory value of every table (00, Names and values; log 1). -/
def factoryStore : Vector (Option StoreCopy) 10 :=
  Vector.ofFn fun i =>
    some (storeImage (tableAt i) factoryTables)

/-- The stored signatures of such a store: those of its images (R172). -/
def factorySignatures : Vector (Option (BitVec 16)) 10 :=
  Vector.ofFn fun i => some (tableSignature (tableAt i) factoryTables)

/-- A monitor after power-on with no sink, showing its part of factory preset 0 (R122, log 1). -/
def factoryMonitorRun (m : Monitor) : MonitorRun :=
  { connected := false, active := factoryPart m, activeOrigin := .preset 0, waiting := none,
    picture := none }

/-- The part right after the power-on reset of a part whose store holds the factory tables and to which no monitor is
connected (DEDUCED and DESIGN CHOICE, log 1). -/
def State.reset : State :=
  { tables := factoryTables
    console := .reset
    router := .reset
    attention := .idle
    focus := .reset factoryDesk
    pointer := .reset
    display := { heads := Vector.replicate 16 none, monitors := Vector.ofFn factoryMonitorRun }
    links := Vector.replicate 8 .reset
    player := none
    skipped := 0
    mgmt := { Mgmt.reset factorySignatures with latch := eventSet [.deskStart] }
    store := factoryStore
    free := 0
    sent := []
    pending := [] }

end Sys2Proof.Machine
end

