-- ==== Sys2Proof/Machine/Ops.lean ====
section
/-! DEFINITION. The named operations over the records of State: access by channel, sending reports (R3), pressed counts and keyboard reports (R38 to R41), button states (R128, R129), the key-down and button tables (R28, R36), console LEDs (R27), cue requests (R80). -/

namespace Sys2Proof.Machine

/-! ## Access -/

def State.link (s : State) (c : Chan) : Link := nth s.links c

def State.setLink (s : State) (c : Chan) (l : Link) : State := { s with links := put s.links c l }

/-- The CHANNELS record of a channel (R1). -/
def State.chanRec (s : State) (c : Chan) : ChannelRec := nth s.tables.channels c

def State.setFocus (s : State) (f : Focus) : State := { s with focus := f }

def State.setPointer (s : State) (p : Pointer) : State := { s with pointer := p }

def State.setMgmt (s : State) (m : Mgmt) : State := { s with mgmt := m }

def State.setEntries (s : State) (es : List KeyEntry) : State :=
  { s with router := { s.router with entries := es } }

def State.counts (s : State) (c : Chan) : Counts := nth s.router.counts c

def State.setCounts (s : State) (c : Chan) (m : Counts) : State :=
  { s with router := { s.router with counts := put s.router.counts c m } }

/-- The button state of a channel (R128). -/
def State.held (s : State) (c : Chan) : Vector Bool 5 := nth s.pointer.held c

def State.setHeld (s : State) (c : Chan) (v : Vector Bool 5) : State :=
  { s with pointer := { s.pointer with held := put s.pointer.held c v } }

def State.setButton (s : State) (b : Button) (t : Option ButtonTarget) : State :=
  { s with pointer := { s.pointer with buttons := put s.pointer.buttons b t } }

def State.monitorRun (s : State) (m : Monitor) : MonitorRun := nth s.display.monitors m

def State.setMonitorRun (s : State) (m : Monitor) (r : MonitorRun) : State :=
  { s with display := { s.display with monitors := put s.display.monitors m r } }

def State.keyPort (s : State) : Port → KeyPort
  | .key => s.console.key
  | .aux => s.console.aux

def State.setKeyPort (s : State) (p : Port) (k : KeyPort) : State :=
  match p with
  | .key => { s with console := { s.console with key := k } }
  | .aux => { s with console := { s.console with aux := k } }

/-- One more thing has left the part. -/
def State.emit (s : State) (o : Sent) : State := { s with sent := s.sent ++ [o] }

/-! ## Sending reports (R3) -/

/-- A report offered for a channel leaves only while the link is ACTIVE, in the order of the offers (R3). -/
def offer (c : Chan) (i : Interface) (bytes : List Byte) (s : State) : State :=
  if (s.link c).state = .active then s.emit (.report c i bytes) else s

/-! ## Pressed counts (R38) -/

/-- The count of a code: 0 for a code not listed. -/
def countOf (k : Code) : Counts → Nat
  | [] => 0
  | (a, n) :: t => if k < a then 0 else if k = a then n else countOf k t

/-- The count of a code raised by 1. -/
def countUp (k : Code) : Counts → Counts
  | [] => [(k, 1)]
  | (a, n) :: t =>
    if k < a then (k, 1) :: (a, n) :: t
    else if k = a then (a, n + 1) :: t
    else (a, n) :: countUp k t

/-- The count of a code lowered by 1; a count that reaches 0 is not listed. -/
def countDown (k : Code) : Counts → Counts
  | [] => []
  | (a, n) :: t =>
    if k < a then (a, n) :: t
    else if k = a then (if n ≤ 1 then t else (a, n - 1) :: t)
    else (a, n) :: countDown k t

/-- The pressed set of a channel, ascending (R38). -/
def State.pressedSet (s : State) (c : Chan) : List Code := (s.counts c).map (·.1)

/-- The bit of a modifier in a modifier set (chapter 11). -/
def modifierBit (k : Code) : Byte := BitVec.twoPow 8 (k - 224)

/-- The modifier set of a list of codes. -/
def modifierByte (ks : List Code) : Byte :=
  (ks.filter isModifier).foldl (fun b k => b ||| modifierBit k) 0

/-- A channel keyboard report of 14 bytes (R40, 11.2). -/
def keyboardReportBytes (ks : List Code) : List Byte :=
  modifierByte ks :: 0 ::
    padTo 12 (((ks.filter fun k => !isModifier k).take 12).map byteOf)

/-- A full keyboard report of the channel's pressed set (R40). -/
def sendKeyboard (c : Chan) (s : State) : State :=
  offer c .keyboard (keyboardReportBytes (s.pressedSet c)) s

/-- The count of a code on a channel rises by 1, with a report if the pressed set changed (R41). -/
def pressCode (c : Chan) (k : Code) (s : State) : State :=
  let s1 := s.setCounts c (countUp k (s.counts c))
  if countOf k (s.counts c) = 0 then sendKeyboard c s1 else s1

/-- The count of a code on a channel falls by 1 without a report (R15). -/
def lowerCode (c : Chan) (k : Code) (s : State) : State :=
  s.setCounts c (countDown k (s.counts c))

/-- The count of a code on a channel falls by 1, with a report if the pressed set changed (R41). -/
def releaseCode (c : Chan) (k : Code) (s : State) : State :=
  if countOf k (s.counts c) = 1 then sendKeyboard c (lowerCode c k s) else lowerCode c k s

/-! ## Pointer reports (R129, 11.2) -/

/-- A set of buttons as a byte: bits 0 to 4 for buttons 1 to 5. -/
def buttonByte (v : Vector Bool 5) : Byte :=
  byteOf ((if nth v 0 then 1 else 0) + (if nth v 1 then 2 else 0) + (if nth v 2 then 4 else 0)
    + (if nth v 3 then 8 else 0) + (if nth v 4 then 16 else 0))

/-- No button. -/
def noButtons : Vector Bool 5 := Vector.replicate 5 false

/-- A signed 8-bit number (chapter 11). -/
def signedByte (n : Int) : Byte := BitVec.ofInt 8 n

/-- A relative report (11.2). -/
def relativeBytes (buttons : Vector Bool 5) (dx dy wheel pan : Int) : List Byte :=
  [buttonByte buttons, signedByte dx, signedByte dy, signedByte wheel, signedByte pan]

/-- An absolute report (11.2). -/
def absoluteBytes (buttons : Vector Bool 5) (ax ay : Nat) (wheel pan : Int) : List Byte :=
  buttonByte buttons :: (word16 ax ++ word16 ay ++ [signedByte wheel, signedByte pan])

/-- The button-state report: zero motion, wheel and pan (R6, R129). -/
def sendButtons (c : Chan) (s : State) : State :=
  offer c .relativePointer (relativeBytes (s.held c) 0 0 0 0) s

/-! ## The key-down table (R28) -/

/-- The order in which entries are walked: ascending code, KEY before AUX (R24, R70). -/
def entryBefore (a b : KeyEntry) : Bool :=
  a.code < b.code || (a.code == b.code && a.port == .key && b.port == .aux)

/-- The entry of a pair (port, code), if any. -/
def findEntry (p : Port) (k : Code) (es : List KeyEntry) : Option KeyEntry :=
  es.find? fun e => e.port == p && e.code == k

/-- The table without the entry of a pair. -/
def dropEntry (p : Port) (k : Code) (es : List KeyEntry) : List KeyEntry :=
  es.filter fun e => !(e.port == p && e.code == k)

/-- An entry placed in order into a table that has none of its pair. -/
def insertEntry (e : KeyEntry) : List KeyEntry → List KeyEntry
  | [] => [e]
  | a :: t => if entryBefore e a then e :: a :: t else a :: insertEntry e t

/-- An entry created, or the entry of its pair replaced. -/
def putEntry (e : KeyEntry) (es : List KeyEntry) : List KeyEntry :=
  insertEntry e (dropEntry e.port e.code es)

def State.putKey (s : State) (p : Port) (k : Code) (t : KeyTarget) : State :=
  s.setEntries (putEntry ⟨p, k, t⟩ s.router.entries)

/-- The target of an existing entry changed (R36, R37); a pair without an entry is left without one. -/
def setTarget (p : Port) (k : Code) (t : KeyTarget) (es : List KeyEntry) : List KeyEntry :=
  es.map fun e => if e.port == p && e.code == k then { e with target := t } else e

def State.targetKey (s : State) (p : Port) (k : Code) (t : KeyTarget) : State :=
  s.setEntries (setTarget p k t s.router.entries)

def State.dropKey (s : State) (p : Port) (k : Code) : State :=
  s.setEntries (dropEntry p k s.router.entries)

/-- Whether a target is a given channel. -/
def KeyTarget.isChannel (t : KeyTarget) (c : Chan) : Bool :=
  match t with
  | .channel d _ _ => d == c
  | _ => false

/-- The same for a button's target. -/
def ButtonTarget.isChannel (t : ButtonTarget) (c : Chan) : Bool :=
  match t with
  | .channel d _ => d == c
  | _ => false

/-- The held modifier set, as a byte (R30): every modifier that has an entry, whatever its target. -/
def State.heldModifiers (s : State) : Byte := modifierByte (s.router.entries.map (·.code))

/-! ## Console LEDs (R27) -/

/-- The lamps the console keyboards show: the focus channel's LED record, or all off (R27). -/
def State.consoleLamps (s : State) : Byte :=
  match s.focus.channel with
  | none => 0
  | some c => (s.link c).leds.setWidth 8

/-- The LED output report to one keyboard port, if it is ACTIVE (R23, R27). -/
def drivePort (p : Port) (s : State) : State :=
  if (s.keyPort p).state = .active then s.emit (.consoleLeds p s.consoleLamps) else s

/-- The LED output report to each ACTIVE keyboard port (R27), KEY's before AUX's (DESIGN CHOICE, log 13). -/
def driveConsoleLeds (s : State) : State := drivePort .aux (drivePort .key s)

/-! ## Cues (R80, R81) -/

/-- A cue request: the named cue starts from the beginning, with the cue volume of the DESK record (R80). -/
def requestCue (q : Cue) (s : State) : State :=
  s.setFocus { s.focus with cue := some ⟨q, 0, s.tables.desk.cueVolume⟩ }

/-! ## Serving and deliverable (R12, R87) -/

/-- The player serves a channel in WAIT_LINK and PLAYING (R87). -/
def State.serves (s : State) (c : Chan) : Bool :=
  match s.player with
  | none => false
  | some p => p.chan == c

/-- R12. -/
def State.deliverable (s : State) (c : Chan) : Bool :=
  (s.link c).state == .active && !s.serves c && (s.link c).queue.isEmpty

/-! ## Captive (R68) -/

/-- Captive is derived: the focus channel has pointer mode RELATIVE (R68). -/
def State.captive (s : State) : Bool :=
  match s.focus.channel with
  | none => false
  | some c => (s.chanRec c).pointerMode == .relative

end Sys2Proof.Machine
end

