-- ==== Sys2Proof/Machine/Flags.lean ====
section
/-! DEFINITION. The event latch (R181), the summary byte (R182), the alert report (R184), and the indicator and tone outputs (R78, R79, R81). -/

namespace Sys2Proof.Machine

/-- The summary byte of the latch as it stands: slot k in bit k - 1 (R182, 11.3). -/
def State.summary (s : State) : Byte :=
  byteOf (s.tables.desk.summarySlots.toList.foldr
    (fun slot n => 2 * n + (match slot with
      | none => 0
      | some e => if hasEvent s.mgmt.latch e then 1 else 0)) 0)

/-- An alert report (R184, 11.3). -/
def alertBytes (e : Event) (s : State) : List Byte :=
  [2, byteOf (eventNumber e), 0, s.summary, 0, 3, 0] ++ eventSetBytes s.mgmt.latch

/-- One alert report on a channel, and the alert-outstanding flag set (R184). -/
def sendAlert (c : Chan) (e : Event) (s : State) : State :=
  let s1 := offer c .management (alertBytes e s) s
  s1.setMgmt { s1.mgmt with alertOutstanding := true }

/-- The alert channel that could be sent an alert now: the flag is clear and its link is ACTIVE (R184). -/
def State.alertReady (s : State) : Option Chan :=
  if s.mgmt.alertOutstanding then none
  else match s.tables.desk.alertChannel with
    | none => none
    | some c => if (s.link c).state = .active then some c else none

/-- An event is latched (R181), and the latching is taken by the first case of R184. -/
def latch (e : Event) (s : State) : State :=
  let s1 := s.setMgmt { s.mgmt with latch := addEvent s.mgmt.latch e }
  if hasEvent s.tables.desk.alertSet e then
    match s1.alertReady with
    | none => s1
    | some c => sendAlert c e s1
  else s1

/-- The lowest-numbered latched event of the alert set. -/
def State.lowestAlert (s : State) : Option Event :=
  allEvents.find? fun e => hasEvent s.mgmt.latch e && hasEvent s.tables.desk.alertSet e

/-- The second case of R184, at the alert channel's becoming ACTIVE and at a DESK write that names a new one. -/
def alertWhenActive (s : State) : State :=
  match s.alertReady, s.lowestAlert with
  | some c, some e => sendAlert c e s
  | _, _ => s

/-- The second case of R184 when channel `c` becomes ACTIVE. -/
def alertOnActive (c : Chan) (s : State) : State :=
  if s.tables.desk.alertChannel = some c then alertWhenActive s else s

/-! ## Indicator (R78, R79) -/

/-- What a channel lamp shows (R78). -/
inductive Lamp where
  | off
  | on
  | sleep
  deriving DecidableEq, Repr

/-- R78. -/
def State.lamp (s : State) (c : Chan) : Lamp :=
  match (s.link c).state with
  | .detached => .off
  | .active => .on
  | .suspended | .waking => .sleep

/-- Whether a channel lamp is lit now; SLEEP lamps pulse together (R78). -/
def State.lampLit (s : State) (c : Chan) : Bool :=
  match s.lamp c with
  | .off => false
  | .on => true
  | .sleep => s.focus.pulse

/-- The focus marker: the number of the focus channel, or the dash, `none` (R79). -/
def State.focusMarker (s : State) : Option Nat := s.focus.channel.map fun c => c.val + 1

/-- The pin marker (R79). -/
def State.pinMarker (s : State) : Bool := s.focus.pinned

/-! ## Cue patterns (R81) -/

/-- An element of a cue: a tone of a pitch in Hz, or a gap, and its length in ms (R81). -/
def cuePattern : Cue → List (Option Nat × Nat)
  | .switch => [(some 1600, 60)]
  | .refused => [(some 400, 120), (none, 60), (some 400, 120)]
  | .wait => [(some 800, 80), (none, 40), (some 1000, 80), (none, 40), (some 1200, 80)]
  | .fail => [(some 300, 500)]

/-- The tone output: the pitch sounding and its level 1 to 3, or quiet (R80, R81). -/
def State.tone (s : State) : Option (Nat × Nat) :=
  match s.focus.cue with
  | none => none
  | some p =>
    match (cuePattern p.cue)[p.element]? with
    | some (some hz, _) => if p.volume = 0 then none else some (hz, p.volume)
    | _ => none

end Sys2Proof.Machine
end

