-- ==== Sys2Proof/Machine/Holding.lean ====
section
/-! DEFINITION. The hold discipline of the Link Controller: wake requests (R7), the hold decision (R12), joining, settling, withdrawing (R13 to R16), drain (R17) and discard (R18). -/

namespace Sys2Proof.Machine

/-! ## Wake requests (R7) -/

/-- The outcomes of a wake request (R7). -/
inductive WakeOutcome where
  | absent
  | awake
  | started
  | denied
  | inProgress
  deriving DecidableEq, Repr

/-- The next attempt is signalled and the window started with the length now in the record (R7, R8). -/
def signalWake (c : Chan) (tries : Nat) (s : State) : State :=
  (s.setLink c { s.link c with
    state := .waking, window := some (s.chanRec c).wakeWindow, tries := tries }).emit
    (.wakeSignal c)

/-- R7. -/
def wakeRequest (c : Chan) (s : State) : WakeOutcome × State :=
  match (s.link c).state with
  | .detached => (.absent, s)
  | .active => (.awake, s)
  | .suspended =>
    if (s.link c).permission then (.started, signalWake c 1 s)
    else (.denied, latch .wakeDenied s)
  | .waking => (.inProgress, s)

/-! ## The hold queue (R11, R13 to R16) -/

/-- The free places of a queue: 32 minus the items minus the reservations (R11). -/
def Link.free (l : Link) : Nat := 32 - (l.queue.length + l.reserved)

/-- A down item joins the queue with two free places, or is refused with HOLD_OVERFLOW (R13); the answer says whether
it was admitted. -/
def placeDown (c : Chan) (item : HoldItem) (s : State) : Bool × State :=
  let l := s.link c
  if 2 ≤ l.free then
    (true, s.setLink c { l with queue := l.queue ++ [item], reserved := l.reserved + 1 })
  else (false, latch .holdOverflow s)

/-- The release of a queued press joins the queue in the place its press reserved (R14). -/
def placeRelease (c : Chan) (item : HoldItem) (s : State) : State :=
  let l := s.link c
  s.setLink c { l with queue := l.queue ++ [item], reserved := l.reserved - 1 }

/-- The record of a settled release (R15): only in ACTIVE, in an empty queue or in a free place. -/
def placeSettled (c : Chan) (item : HoldItem) (s : State) : State :=
  let l := s.link c
  if l.state = .active ∧ (l.queue = [] ∨ 1 ≤ l.free) then
    s.setLink c { l with queue := l.queue ++ [item] }
  else s

/-- The release of a DELIVERED key on a channel that is not deliverable is settled (R15). -/
def settleKey (c : Chan) (p : Port) (code translated : Code) (s : State) : State :=
  placeSettled c (.keyUp p code translated true) (lowerCode c translated s)

/-- A button's release on a channel that is not deliverable is settled (R15). -/
def settleButton (c : Chan) (b : Button) (s : State) : State :=
  placeSettled c (.buttonUp b true) (s.setHeld c (put (s.held c) b false))

/-- An item whose press names the entry of (p, code) names none from then on (R11, R16). -/
def HoldItem.forgetKey (p : Port) (code : Code) (i : HoldItem) : HoldItem :=
  match i with
  | .keyDown q k t n => .keyDown q k t (n && !(q == p && k == code))
  | .modHandover q k t n => .modHandover q k t (n && !(q == p && k == code))
  | other => other

/-- The same for a button's entry. -/
def HoldItem.forgetButton (b : Button) (i : HoldItem) : HoldItem :=
  match i with
  | .buttonDown d n => .buttonDown d (n && !(d == b))
  | other => other

/-- The entry of (p, code) is removed or settled: no item of the queue names it any more (R11). -/
def forgetKey (c : Chan) (p : Port) (code : Code) (s : State) : State :=
  s.setLink c { s.link c with queue := (s.link c).queue.map (HoldItem.forgetKey p code) }

def forgetButton (c : Chan) (b : Button) (s : State) : State :=
  s.setLink c { s.link c with queue := (s.link c).queue.map (HoldItem.forgetButton b) }

/-- Whether an item's press names the entry of (p, code). -/
def HoldItem.namesKey (p : Port) (code : Code) (i : HoldItem) : Bool :=
  match i with
  | .keyDown q k _ n => n && q == p && k == code
  | .modHandover q k _ n => n && q == p && k == code
  | _ => false

/-- The withdrawal of a queued key's down item (R16): the item goes and its reservation with it. -/
def withdrawKey (c : Chan) (p : Port) (code : Code) (s : State) : State :=
  let l := s.link c
  s.setLink c { l with
    queue := l.queue.filter fun i => !i.namesKey p code
    reserved := l.reserved - 1 }

/-- The causes for which a QUEUED key becomes CONSUMED (R16, R36). -/
inductive ConsumeCause where
  /-- The settlement of a modifier at a focus change (R71). -/
  | settlement
  /-- The discard of the queue (R18) or a link loss (R10): the queue is emptied whole. -/
  | emptied
  /-- Any other cause (R16). The rules of R36 name none. -/
  | other
  deriving DecidableEq, Repr

/-- A QUEUED key of channel c becomes CONSUMED (R16, R36). -/
def consumeQueued (cause : ConsumeCause) (c : Chan) (p : Port) (code translated : Code)
    (s : State) : State :=
  let s1 := s.targetKey p code .consumed
  match cause with
  | .settlement => placeRelease c (.keyUp p code translated false) (forgetKey c p code s1)
  | .emptied => s1
  | .other => withdrawKey c p code s1

/-! ## The hold decision (R12) -/

/-- What became of a down that was offered (R12, R13). -/
inductive HoldDecision where
  | deliver
  | queued
  | refused
  | discarded
  deriving DecidableEq, Repr

/-- QUEUE under R13: admitted or refused. -/
def queueDown (c : Chan) (item : HoldItem) (s : State) : HoldDecision × State :=
  let r := placeDown c item s
  (if r.1 then .queued else .refused, r.2)

/-- The hold decision of R12 for a down item offered to channel c. -/
def offerDown (c : Chan) (item : HoldItem) (s : State) : HoldDecision × State :=
  match (s.link c).state with
  | .detached => (.discarded, s)
  | .suspended =>
    if (s.chanRec c).wakeOnInput then
      if (s.link c).permission then
        let r := queueDown c item s
        (r.1, (wakeRequest c r.2).2)
      else (.discarded, latch .wakeDenied s)
    else (.discarded, s)
  | .waking => queueDown c item s
  | .active => if s.deliverable c then (.deliver, s) else queueDown c item s

/-! ## Drain (R17) and discard (R18) -/

/-- A drained press whose item names an entry marks that entry DELIVERED (R17, R37). -/
def markKey (c : Chan) (p : Port) (code : Code) (s : State) : State :=
  match findEntry p code s.router.entries with
  | some ⟨_, _, .channel d t .queued⟩ =>
    if d = c then s.targetKey p code (.channel c t .delivered) else s
  | _ => s

def markButton (c : Chan) (b : Button) (s : State) : State :=
  match nth s.pointer.buttons b with
  | some (.channel d .queued) =>
    if d = c then s.setButton b (some (.channel c .delivered)) else s
  | _ => s

/-- The effect of one item of a drain (R17). -/
def drainItem (c : Chan) (s : State) (i : HoldItem) : State :=
  match i with
  | .keyDown p code t named | .modHandover p code t named =>
    let s1 := pressCode c t s
    if named then markKey c p code s1 else s1
  | .keyUp _ _ t settled => if settled then s else releaseCode c t s
  | .buttonDown b named =>
    let s1 := sendButtons c (s.setHeld c (put (s.held c) b true))
    if named then markButton c b s1 else s1
  | .buttonUp b settled =>
    if settled then s else sendButtons c (s.setHeld c (put (s.held c) b false))

/-- The queue of a channel emptied with its reservations. -/
def emptyQueue (c : Chan) (s : State) : State :=
  s.setLink c { s.link c with queue := [], reserved := 0 }

/-- Step 3 of a drain: every item, head first (R17). -/
def drainItems (c : Chan) (s : State) : State :=
  (s.link c).queue.foldl (drainItem c) (emptyQueue c s)

/-- Steps 1 and 2 of a drain, which are also the resume reports (R6, R17). -/
def fullStateReports (c : Chan) (s : State) : State := sendButtons c (sendKeyboard c s)

/-- A drain (R17). -/
def drain (c : Chan) (s : State) : State := drainItems c (fullStateReports c s)

/-- A down item of a discarded queue has the entry its press names made CONSUMED (R18). -/
def discardItem (s : State) (i : HoldItem) : State :=
  match i with
  | .keyDown p code _ true | .modHandover p code _ true => s.targetKey p code .consumed
  | .buttonDown b true => s.setButton b (some .consumed)
  | _ => s

/-- The discard of a channel's hold queue (R18). -/
def discardQueue (c : Chan) (s : State) : State :=
  emptyQueue c ((s.link c).queue.foldl discardItem s)

end Sys2Proof.Machine
end

