-- ==== Sys2Proof/Machine/Routing.lean ====
section
/-! DEFINITION. The Key Router's operations: translation (R32), routing (R33), key-up (R34), taps (R35), retarget (R37), and the player's contributions (R39). -/

namespace Sys2Proof.Machine

/-! ## Translation (R32) -/

/-- The to code of a pair with this from code; without a pair the code itself. `none` is BLOCKED (R32). -/
def translateBy (km : Keymap) (k : Code) : Option Code :=
  match km.find? (fun p => p.1 == k) with
  | none => some k
  | some p => p.2

/-- The translation of a console code for a channel by the keymap its record names at this moment (R32). -/
def State.translate (s : State) (c : Chan) (k : Code) : Option Code :=
  match oneBased? 4 (s.chanRec c).keymap.val with
  | none => some k
  | some i => translateBy (nth s.tables.keymaps i) k

/-! ## Routing (R33) -/

/-- The entry's target and the state after a key-down is routed to the focus channel (R33). -/
def routeTarget (p : Port) (k : Code) (s : State) : KeyTarget × State :=
  match s.focus.channel with
  | none => (.consumed, s)
  | some c =>
    match s.translate c k with
    | none =>
      if (s.link c).state = .detached then (.consumed, s) else (.channel c none .delivered, s)
    | some t =>
      match offerDown c (.keyDown p k t true) s with
      | (.deliver, s1) => (.channel c (some t) .delivered, pressCode c t s1)
      | (.queued, s1) => (.channel c (some t) .queued, s1)
      | (.refused, s1) => (.consumed, s1)
      | (.discarded, s1) => (.consumed, s1)

/-- A key-down routed: its entry is created, or a withheld entry takes its place again (R33, R37). -/
def routeKey (p : Port) (k : Code) (s : State) : State :=
  let r := routeTarget p k s
  r.2.putKey p k r.1

/-! ## Key-up (R34) -/

/-- The Matcher is told that the withheld attention key is released (R51): the tap window starts. -/
def tapReleased (s : State) : State :=
  match s.attention with
  | .tapDown code p => { s with attention := .tapUp code p s.tables.desk.tapWindow }
  | _ => s

/-- The contribution of a DELIVERED key removed from its channel, as a key-up does (R34, R36, R71). -/
def removeContribution (c : Chan) (p : Port) (code translated : Code) (s : State) : State :=
  if s.deliverable c then releaseCode c translated s else settleKey c p code translated s

/-- R34. -/
def keyUp (p : Port) (k : Code) (s : State) : State :=
  match findEntry p k s.router.entries with
  | none => s
  | some e =>
    match e.target with
    | .pendingTap => tapReleased (s.dropKey p k)
    | .consumed => s.dropKey p k
    | .channel _ none _ => s.dropKey p k
    | .channel c (some t) .queued =>
      (placeRelease c (.keyUp p k t false) (forgetKey c p k s)).dropKey p k
    | .channel c (some t) .delivered => (removeContribution c p k t s).dropKey p k

/-! ## Taps (R35) -/

/-- A tap of a code into channel c (R35). -/
def deliverTap (c : Chan) (p : Port) (k : Code) (s : State) : State :=
  match s.translate c k with
  | none => s
  | some t =>
    match offerDown c (.keyDown p k t false) s with
    | (.deliver, s1) => releaseCode c t (pressCode c t s1)
    | (.queued, s1) => placeRelease c (.keyUp p k t false) s1
    | (.refused, s1) => s1
    | (.discarded, s1) => s1

/-- A late tap into the focus channel of this moment, or none when the focus is NONE (R52, R53). -/
def lateTap (p : Port) (k : Code) (s : State) : State :=
  match s.focus.channel with
  | none => s
  | some c => deliverTap c p k s

/-! ## Retarget at a focus hand-over (R37) -/

/-- A modifier already released on its old channel is placed on channel n (R37); a refused MOD_HANDOVER leaves the entry
CONSUMED (R71). The hold decision is not consulted. -/
def retargetKey (n : Chan) (p : Port) (k : Code) (s : State) : State :=
  match s.translate n k with
  | none => s.targetKey p k (.channel n none .delivered)
  | some t =>
    if s.deliverable n then pressCode n t (s.targetKey p k (.channel n (some t) .delivered))
    else
      let r := placeDown n (.modHandover p k t true) s
      if r.1 then r.2.targetKey p k (.channel n (some t) .queued)
      else r.2.targetKey p k .consumed

/-! ## The player's contributions (R39) -/

/-- A code placed into the macro pressed set. -/
def addPressed (k : Code) : List Code → List Code
  | [] => [k]
  | a :: t => if k < a then k :: a :: t else if k = a then a :: t else a :: addPressed k t

/-- The number of non-modifier codes of a channel's pressed set. -/
def State.ordinaryCount (s : State) (c : Chan) : Nat :=
  ((s.pressedSet c).filter fun k => !isModifier k).length

/-- The code limit refuses a press (R39). -/
def State.overLimit (s : State) (c : Chan) (k : Code) : Bool :=
  !isModifier k && !(s.pressedSet c).contains k && 12 ≤ s.ordinaryCount c

/-- A press asked for by the player (R39): the answer says whether it was refused under the code limit. -/
def playerPress (pl : Player) (k : Code) (s : State) : Bool × State :=
  if pl.pressed.contains k then (false, s)
  else if s.overLimit pl.chan k then (true, s)
  else (false, pressCode pl.chan k { s with player := some { pl with pressed := addPressed k pl.pressed } })

/-- A release asked for by the player (R39). -/
def playerRelease (pl : Player) (k : Code) (s : State) : State :=
  if pl.pressed.contains k then
    releaseCode pl.chan k
      { s with player := some { pl with pressed := pl.pressed.filter (· != k) } }
  else s

/-- Every code of a list leaves the channel's counts without a report of its own (R39, R92). -/
def lowerAll (c : Chan) (ks : List Code) (s : State) : State :=
  ks.foldl (fun s k => lowerCode c k s) s

end Sys2Proof.Machine
end

