-- ==== Sys2Proof/Machine/FocusOps.lean ====
section
/-! DEFINITION. Focus changes (R69 to R72) and glide: the dwell, pointer notices and completion (R149 to R155). -/

namespace Sys2Proof.Machine

/-- The causes of a focus change (4.2). -/
inductive Cause where
  | hotkey
  | management
  | glide
  deriving DecidableEq, Repr

/-- The verdicts of R69; REFUSED with the condition that failed. -/
inductive Verdict where
  | changed
  | unchanged
  | refusedDetached
  | refusedPinned
  | refusedCaptive
  | refusedPolicy
  deriving DecidableEq, Repr

/-- Whether the isolation policy lets a glide reach channel n from the focus channel (R69, R151): always from NONE. -/
def State.glideAllowed (s : State) (n : Chan) : Bool :=
  match s.focus.channel with
  | none => true
  | some o => s.mgmt.policy.glides (s.chanRec o).group (s.chanRec n).group

/-- R69, its conditions tested in the order of the table. -/
def judgeFocus (cause : Cause) (n : Chan) (s : State) : Verdict :=
  if (s.link n).state = .detached then .refusedDetached
  else if s.focus.channel = some n then .unchanged
  else if cause = .glide ∧ s.focus.pinned = true then .refusedPinned
  else if cause = .glide ∧ s.captive = true then .refusedCaptive
  else if cause = .glide ∧ s.glideAllowed n = false then .refusedPolicy
  else .changed

/-- A pending dwell is cancelled: no cue, no event (R149). -/
def cancelDwell (s : State) : State := s.setFocus { s.focus with dwell := none }

/-! ## Held modifiers at a focus change (R71) -/

/-- The settlement of one modifier entry (p, k) whose target is the old channel o (R71). -/
def settleModifier (handover : Bool) (o n : Chan) (s : State) (pk : Port × Code) : State :=
  match findEntry pk.1 pk.2 s.router.entries with
  | some ⟨p, k, .channel c t st⟩ =>
    if c = o then
      match t, st with
      | some t, .delivered =>
        let s1 := removeContribution o p k t s
        if handover then retargetKey n p k s1 else s1.targetKey p k .consumed
      | none, .delivered =>
        if handover then retargetKey n p k s else s.targetKey p k .consumed
      | some t, .queued => consumeQueued .settlement o p k t s
      | none, .queued => s.targetKey p k .consumed
    else s
  | _ => s

/-- The modifier entries that target a channel, in the order of R70: ascending code, KEY before AUX. -/
def State.modifiersOf (s : State) (o : Chan) : List (Port × Code) :=
  (s.router.entries.filter fun e => isModifier e.code && e.target.isChannel o).map
    fun e => (e.port, e.code)

/-- Step 2 of R70. A hand-over needs cause GLIDE and one isolation group (R71). -/
def settleModifiers (cause : Cause) (o n : Chan) (s : State) : State :=
  (s.modifiersOf o).foldl
    (settleModifier (cause = .glide && (s.chanRec o).group == (s.chanRec n).group) o n) s

/-! ## The change (R70) -/

/-- Step 5 of R70 (R72): the answer says whether a wake was started. -/
def wakeOnFocus (n : Chan) (s : State) : Bool × State :=
  if (s.link n).state = .suspended ∧ (s.chanRec n).wakeOnFocus = true then
    let r := wakeRequest n s
    (r.1 == .started, r.2)
  else (false, s)

/-- Step 1 of R70. -/
def recordFocus (n : Chan) (s : State) : State := s.setFocus { s.focus with channel := some n }

/-- Step 2 of R70 from the old channel, if there is one. -/
def settleFrom (cause : Cause) (o : Option Chan) (n : Chan) (s : State) : State :=
  match o with
  | none => s
  | some o => settleModifiers cause o n s

/-- Steps 1 to 6 of R70. What captive's end does after them is `focusRequest`'s. -/
def focusSteps (cause : Cause) (n : Chan) (s : State) : State :=
  let s4 := driveConsoleLeds (cancelDwell (settleFrom cause s.focus.channel n (recordFocus n s)))
  let r := wakeOnFocus n s4
  requestCue (if r.1 then .wait else .switch) (latch .focusChanged r.2)

/-! ## Glide (chapter 08) -/

/-- A request with cause GLIDE (R69, R155). A glide is refused while captive (R69), so it never ends captive mode. -/
def glideRequest (n : Chan) (s : State) : State :=
  match judgeFocus .glide n s with
  | .changed => focusSteps .glide n s
  | .refusedPolicy => latch .glideBarrier s
  | _ => s

/-- R153: the dwell is cancelled before the request. -/
def completeDwell (s : State) : State :=
  match s.focus.dwell with
  | none => s
  | some d => glideRequest d.candidate (cancelDwell s)

/-- A dwell toward c starts with the DESK record's dwell; a length of 0 completes at once (R149, R150). -/
def startDwell (c : Chan) (s : State) : State :=
  let s1 := s.setFocus { s.focus with dwell := some ⟨c, s.tables.desk.dwell⟩ }
  if s.tables.desk.dwell = 0 then completeDwell s1 else s1

/-- The conditions of R151 but for the policy. -/
def State.eligibleButPolicy (s : State) (c : Chan) : Bool :=
  s.focus.glideEnabled && !s.focus.pinned && !s.captive
    && (s.chanRec c).pointerMode == .absolute && (s.link c).state != .detached

/-- A pointer notice naming the new pointer channel (R150, R151). -/
def pointerNotice (new : Option Chan) (s : State) : State :=
  let s1 := cancelDwell s
  match new with
  | none => s1
  | some c =>
    if s1.focus.channel = some c then s1
    else if s1.eligibleButPolicy c then
      if s1.glideAllowed c then startDwell c s1 else latch .glideBarrier s1
    else s1

/-- A press notice naming channel c (R154). -/
def pressNotice (c : Chan) (s : State) : State :=
  match s.focus.dwell with
  | none => s
  | some d => if d.candidate = c then completeDwell s else s

end Sys2Proof.Machine
end

