-- ==== Sys2Proof/Machine/Geometry.lean ====
section
/-! DEFINITION. The Display Matrix's checks and answers: geometry (R108), mix rule (R109), liveness (R105), the tile, head and owner under a point (R121, R135), mapping (R136, R137), and the pixels of a frame (R110 to R112). -/

namespace Sys2Proof.Machine

/-! ## Layout checks -/

/-- A tile passes the geometry check for a monitor (R108). -/
def tileFits (T : Tables) (m : Monitor) (t : Tile) : Bool :=
  let mon := nth T.monitors m
  t.rect.x + t.rect.w ≤ mon.width && t.rect.y + t.rect.h ≤ mon.height &&
    (match t.content with
     | none => true
     | some v =>
       let h := nth T.heads v.head
       v.source.x + v.source.w ≤ h.width && v.source.y + v.source.h ≤ h.height)

/-- The geometry check of R108. -/
def geometryOk (T : Tables) (m : Monitor) (l : Layout) : Bool := l.all (tileFits T m)

/-- The isolation group a tile brings, if any (R109). -/
def tileGroup (T : Tables) (t : Tile) : Option Group :=
  match t.content with
  | none => none
  | some v => (nth T.heads v.head).owner.map fun c => (nth T.channels c).group

/-- The groups present in a layout (R109). -/
def groupsOf (T : Tables) (l : Layout) : List Group := l.filterMap (tileGroup T)

/-- The mix rule of R109. -/
def mixOk (T : Tables) (P : Policy) (l : Layout) : Bool :=
  (groupsOf T l).all fun a => (groupsOf T l).all fun b => P.mixes a b

/-- Both checks against the tables and the policy as they stand. -/
def State.layoutOk (s : State) (m : Monitor) (l : Layout) : Bool :=
  geometryOk s.tables m l && mixOk s.tables s.mgmt.policy l

/-- The events of a failed check (R114): LAYOUT_REFUSED for geometry, and then MIX_REFUSED for the mix rule (the order of the
two DESIGN CHOICE, log 13). -/
def latchRefusals (geometryFailed mixFailed : Bool) (s : State) : State :=
  let s1 := if geometryFailed then latch .layoutRefused s else s
  if mixFailed then latch .mixRefused s1 else s1

/-! ## Live monitors (R105) -/

/-- R105. -/
def State.live (s : State) (m : Monitor) : Bool :=
  (nth s.tables.monitors m).enabled && (s.monitorRun m).connected

/-- The live monitors in ascending number (R121). -/
def State.liveMonitors (s : State) : List Monitor := allMonitors.filter s.live

/-- The rectangle of a monitor on the desk (R104). -/
def State.monitorRect (s : State) (m : Monitor) : Rect := (nth s.tables.monitors m).rect

/-- The live monitor whose rectangle contains a desk point (R121). -/
def State.monitorAt (s : State) (x y : Nat) : Option Monitor :=
  s.liveMonitors.find? fun m => (s.monitorRect m).contains x y

/-! ## Tile, owner, mapping (R121, R135 to R137) -/

/-- The tile of a monitor's active layout that contains a local point (R121). -/
def State.tileAt (s : State) (m : Monitor) (lx ly : Nat) : Option Tile :=
  (s.monitorRun m).active.find? fun t => t.rect.contains lx ly

/-- The monitor and the tile of its active layout under a desk point. -/
def State.tileUnder (s : State) (x y : Nat) : Option (Monitor × Tile) :=
  match s.monitorAt x y with
  | none => none
  | some m =>
    (s.tileAt m (x - (s.monitorRect m).x) (y - (s.monitorRect m).y)).map fun t => (m, t)

/-- The owner of a tile (R135, step 3): none for BLANK, for a head without owner, and for a RELATIVE channel. -/
def State.tileOwner (s : State) (t : Tile) : Option Chan :=
  match t.content with
  | none => none
  | some v =>
    match (nth s.tables.heads v.head).owner with
    | none => none
    | some c => if (s.chanRec c).pointerMode = .relative then none else some c

/-- The owner of a desk point (R135). -/
def State.ownerAt (s : State) (x y : Nat) : Option Chan :=
  match s.tileUnder x y with
  | none => none
  | some (_, t) => s.tileOwner t

/-- The scaling of R112 and R136: source.x + floor((l - t.x) * s.w / t.w). -/
def scaleInto (sourceStart sourceLen tileStart tileLen l : Nat) : Nat :=
  sourceStart + (l - tileStart) * sourceLen / tileLen

/-- The conversion to absolute coordinates with rounding to the nearest value (R137). -/
def absoluteCoordinate (point size : Nat) : Nat :=
  (point * 32767 + (size - 1) / 2) / (size - 1)

/-- The absolute coordinates of a desk point on the tile of a channel's head (R136, R137). -/
def State.mapPoint (s : State) (c : Chan) (x y : Nat) : Option (Nat × Nat) :=
  match s.tileUnder x y with
  | none => none
  | some (m, t) =>
    match t.content with
    | none => none
    | some v =>
      let h := nth s.tables.heads v.head
      let lx := x - (s.monitorRect m).x
      let ly := y - (s.monitorRect m).y
      let cx := h.ox + scaleInto v.source.x v.source.w t.rect.x t.rect.w lx
      let cy := h.oy + scaleInto v.source.y v.source.h t.rect.y t.rect.h ly
      some (absoluteCoordinate cx (s.chanRec c).width, absoluteCoordinate cy (s.chanRec c).height)

/-! ## The picture of a frame (R110 to R112) -/

/-- What a tile's part of a frame shows (R110). -/
def State.shownIn (s : State) (t : Tile) : Shown :=
  match t.content with
  | none => .blank
  | some v =>
    let asleep : Bool := match (nth s.tables.heads v.head).owner with
      | none => false
      | some c => (s.link c).state == .suspended || (s.link c).state == .waking
    if asleep then .asleep
    else match nth s.display.heads v.head with
      | none => .noSignal
      | some (w, h) => .picture v w h

/-- The picture fixed at a frame start from the active layout and from the head and link states (R106, R110). -/
def State.pictureOf (s : State) (m : Monitor) : Picture :=
  { width := (nth s.tables.monitors m).width
    height := (nth s.tables.monitors m).height
    tiles := (s.monitorRun m).active.map fun t => (t.rect, s.shownIn t) }

/-- One pixel of an output: a fill colour (red, green, blue) or a pixel of a head (R111, R112). -/
inductive Pixel where
  | colour (r g b : Nat)
  | headPixel (h : Head) (hx hy : Nat)
  deriving DecidableEq, Repr

/-- R111. -/
def blankFill : Pixel := .colour 0 0 0

/-- The pixel a tile shows at a local point inside it (R110 to R112). -/
def shownPixel (r : Rect) (sh : Shown) (lx ly : Nat) : Pixel :=
  match sh with
  | .blank => blankFill
  | .noSignal => .colour 48 48 48
  | .asleep => .colour 0 0 64
  | .picture v w h =>
    let hx := scaleInto v.source.x v.source.w r.x r.w lx
    let hy := scaleInto v.source.y v.source.h r.y r.h ly
    if hx < w ∧ hy < h then .headPixel v.head hx hy else blankFill

/-- The pixel of a frame at a local point of its monitor; area that no tile covers shows the blank fill (R110). -/
def Picture.pixel (p : Picture) (lx ly : Nat) : Pixel :=
  match p.tiles.find? fun t => t.1.contains lx ly with
  | none => blankFill
  | some t => shownPixel t.1 t.2 lx ly

end Sys2Proof.Machine
end

