-- ==== Sys2Proof/Machine/Operands.lean ====
section
/-! DEFINITION. Reading the operands of the commands: console reports (R25, R26, R125), request frames (9.1, 11.3, R185). -/

namespace Sys2Proof.Machine

/-! ## Console keyboard reports -/

/-- The six slots as codes. -/
def slotCodes (r : KeyboardBytes) : List Code :=
  [r.slot1.toNat, r.slot2.toNat, r.slot3.toNat, r.slot4.toNat, r.slot5.toNat, r.slot6.toNat]

/-- The modifier codes of a modifier set, ascending. -/
def modifierCodes (b : Byte) : List Code :=
  [224, 225, 226, 227, 228, 229, 230, 231].filter fun k => b.getLsbD (k - 224)

/-- A code placed into an ascending list without repeats. -/
def insertCode (k : Code) : List Code → List Code
  | [] => [k]
  | a :: t => if k < a then k :: a :: t else if k = a then a :: t else a :: insertCode k t

/-- The report read as a set of codes, ascending (R25): modifiers together with the non-zero slot codes. -/
def reportCodes (r : KeyboardBytes) : List Code :=
  ((slotCodes r).filter (· != 0)).foldr insertCode [] ++ modifierCodes r.modifiers

/-- A code appears in more than one slot (R26). -/
def repeatsCode : List Code → Bool
  | [] => false
  | k :: t => (k != 0 && t.contains k) || repeatsCode t

/-- A report that cannot be taken as a whole set of keys is held (R26): an error code, a repeated code, or a slot code
that is not 0, 1 to 3 or 4 to 164. -/
def reportHeld (r : KeyboardBytes) : Bool :=
  (slotCodes r).any (fun k => k != 0 && !isOrdinary k) || repeatsCode (slotCodes r)

/-! ## Console pointer reports (11.1, R125) -/

/-- One pointer sample (R125). -/
structure Sample where
  dx       : Int
  dy       : Int
  wheel    : Int
  pan      : Int
  releases : List Button
  presses  : List Button
  deriving DecidableEq, Repr

/-- A signed 8-bit field at an offset; a missing field is 0 (11.1). -/
def signed8At (bs : List Byte) (i : Nat) : Int := (bs.getD i 0).toInt

/-- A signed two-byte field at an offset; a field that is not wholly there is missing, and 0 (11.1, log 19). -/
def signed16At (bs : List Byte) (i : Nat) : Int :=
  if i + 1 < bs.length then (BitVec.ofNat 16 (byteAt bs i + 256 * byteAt bs (i + 1))).toInt else 0

/-- A value beyond a bound becomes that bound (R76, R125). -/
def clampInt (bound : Int) (n : Int) : Int := max (-bound) (min bound n)

/-- The button set of a report: bits 0 to 4; bits 5 to 7 are buttons beyond the fifth, ignored (R124). -/
def reportButtons (bs : List Byte) : Vector Bool 5 :=
  Vector.ofFn fun b => (bs.getD 0 0).getLsbD b.val

/-- The sample of a report against the last button set (R125). -/
def sampleOf (last : Vector Bool 5) (bs : List Byte) : Sample :=
  let now := reportButtons bs
  { dx := clampInt 2047 (signed16At bs 1)
    dy := clampInt 2047 (signed16At bs 3)
    wheel := clampInt 127 (signed8At bs 5)
    pan := clampInt 127 (signed8At bs 6)
    releases := allButtons.filter fun b => nth last b && !nth now b
    presses := allButtons.filter fun b => nth now b && !nth last b }

/-- The detach sample (R126). -/
def detachSample (last : Vector Bool 5) : Sample :=
  { dx := 0, dy := 0, wheel := 0, pan := 0, releases := allButtons.filter (nth last), presses := [] }

/-! ## Management requests (9.1, 11.3) -/

/-- The sixteen commands, in the order of their numbers (11.3). -/
inductive Command where
  | identify
  | readTable
  | writeTable
  | lockTable
  | signTable
  | saveStore
  | setPolicy
  | select
  | recallPreset
  | setLayout
  | wake
  | playMacro
  | readState
  | readEvents
  | clearEvents
  | deskRestart
  deriving DecidableEq, Repr

/-- Every command in ascending number. -/
def allCommands : List Command :=
  [.identify, .readTable, .writeTable, .lockTable, .signTable, .saveStore, .setPolicy, .select,
   .recallPreset, .setLayout, .wake, .playMacro, .readState, .readEvents, .clearEvents,
   .deskRestart]

/-- The command of a number 1 to 16. -/
def commandOf? (n : Nat) : Option Command := if n = 0 then none else allCommands[n - 1]?

/-- Check 0 of R162: at least eight bytes, and the length is eight plus the payload length. -/
def reportWellFormed (bs : List Byte) : Bool := 8 ≤ bs.length && bs.length == 8 + wordAt bs 6

/-- The frame of a well-formed report (11.3). -/
def frameOf (bs : List Byte) : Frame :=
  { tag := bs.getD 0 0, level := bs.getD 2 0, tableId := bs.getD 3 0, first := bs.getD 4 0,
    count := bs.getD 5 0, payload := bs.drop 8 }

/-- The report that carries a frame of a command with a given number (11.3). -/
def frameBytes (command : Nat) (f : Frame) : List Byte :=
  [f.tag, byteOf command, f.level, f.tableId, f.first, f.count] ++ word16 f.payload.length
    ++ f.payload

/-- The commands that name a table (9.1). -/
def Command.namesTable : Command → Bool
  | .readTable | .writeTable | .lockTable | .signTable => true
  | _ => false

/-- The commands that use the first index and the count (9.1). -/
def Command.usesRange : Command → Bool
  | .readTable | .writeTable => true
  | _ => false

/-- The payload length a command takes (11.3); WRITE_TABLE takes count record images. -/
def Command.payloadLength (cmd : Command) (f : Frame) : Nat :=
  match cmd with
  | .writeTable =>
    match tableOfId? f.tableId.toNat with
    | none => 0
    | some t => f.count.toNat * recordBytes t
  | .setPolicy => 6
  | .select | .wake | .recallPreset => 1
  | .playMacro => 2
  | .setLayout => 70
  | .clearEvents => 3
  | _ => 0

/-- Check 7's frame part (R162, R185): a payload of at most 480 bytes and of the length the command takes, and the
fields the command does not use 0 (9.1, log 18). -/
def frameOk (cmd : Command) (f : Frame) : Bool :=
  f.payload.length ≤ 480 && f.payload.length == cmd.payloadLength f
    && (cmd.namesTable || f.tableId == 0)
    && (cmd.usesRange || (f.first == 0 && f.count == 0))

/-- The range of records first to first + count - 1 lies in the table and is not empty (R166, R167). -/
def rangeOk (t : Table) (f : Frame) : Bool :=
  1 ≤ f.count.toNat && firstIndex t ≤ f.first.toNat
    && f.first.toNat + f.count.toNat ≤ firstIndex t + recordCount t

end Sys2Proof.Machine
end

