-- ==== Sys2Proof/Machine/PointerOps.lean ====
section
/-! DEFINITION. The Pointer Engine: ballistics (R131, R132), resolution (R133, R134), motion delivery (R139), buttons (R140, R141, R77), desk notices, re-homing and parking (R142 to R144), samples (R76, R138). -/

namespace Sys2Proof.Machine

/-! ## Ballistics (R131, R132) -/

/-- The speed of a sample (R131). -/
def speedOf (dx dy : Int) : Nat :=
  max dx.natAbs dy.natAbs + min dx.natAbs dy.natAbs / 2

/-- The gain at a speed (R131). -/
def gainOf (b : Ballistics) (speed : Nat) : Nat :=
  if speed ≤ b.vb then b.g0 else min b.gmax (b.g0 + b.k * (speed - b.vb))

/-- Step and new fraction of one axis (R132): t = f + d * g, p = t / 256 truncated toward zero, f' = t - 256 p. -/
def scaleAxis (f d : Int) (gain : Nat) : Int × Int :=
  let t := f + d * gain
  (t.tdiv 256, t - 256 * t.tdiv 256)

/-! ## Resolution (R133, R134) -/

/-- A coordinate limited to start through start + len - 1. -/
def clampSpan (start len : Nat) (q : Int) : Nat :=
  (max (start : Int) (min ((start : Int) + len - 1) q)).toNat

/-- A rectangle contains a point with integer coordinates. -/
def rectHolds (r : Rect) (qx qy : Int) : Bool :=
  (r.x : Int) ≤ qx && qx < (r.x : Int) + r.w && (r.y : Int) ≤ qy && qy < (r.y : Int) + r.h

/-- R133: the candidate itself inside a live monitor, else each axis clamped into the live monitor that contains P. P
always lies in a live monitor while the pointer is not parked (R127); were it not so, P would stay (log 20). -/
def State.resolve (s : State) (qx qy : Int) : Nat × Nat :=
  if s.liveMonitors.any fun m => rectHolds (s.monitorRect m) qx qy then (qx.toNat, qy.toNat)
  else match s.monitorAt s.pointer.x s.pointer.y with
    | none => (s.pointer.x, s.pointer.y)
    | some m =>
      (clampSpan (s.monitorRect m).x (s.monitorRect m).w qx,
       clampSpan (s.monitorRect m).y (s.monitorRect m).h qy)

/-- The drag channel: the target of the lowest-numbered button whose entry targets a channel (R128). -/
def State.dragChannel (s : State) : Option Chan :=
  allButtons.findSome? fun b =>
    match nth s.pointer.buttons b with
    | some (.channel c _) => some c
    | _ => none

/-- R134: with a drag channel that does not own D, D is clamped into the tile that contains P, or becomes P. -/
def State.confine (s : State) (d : Nat × Nat) : Nat × Nat :=
  match s.dragChannel with
  | none => d
  | some c =>
    if s.ownerAt d.1 d.2 = some c then d
    else match s.tileUnder s.pointer.x s.pointer.y with
      | none => (s.pointer.x, s.pointer.y)
      | some (m, t) =>
        (clampSpan ((s.monitorRect m).x + t.rect.x) t.rect.w d.1,
         clampSpan ((s.monitorRect m).y + t.rect.y) t.rect.h d.2)

/-- The fraction of an axis: lost where R133 or R134 changed the coordinate. -/
def keptFraction (f candidate : Int) (resolved confined : Nat) : Int :=
  if (resolved : Int) = candidate ∧ confined = resolved then f else 0

/-- Step 2 of R138 for a pointer that is not parked: R131 to R134. -/
def movePointer (dx dy : Int) (s : State) : State :=
  let g := gainOf s.tables.ballistics (speedOf dx dy)
  let ax := scaleAxis s.pointer.fx dx g
  let ay := scaleAxis s.pointer.fy dy g
  let qx := (s.pointer.x : Int) + ax.1
  let qy := (s.pointer.y : Int) + ay.1
  let d := s.resolve qx qy
  let e := s.confine d
  s.setPointer { s.pointer with
    x := e.1, y := e.2
    fx := keptFraction ax.2 qx d.1 e.1
    fy := keptFraction ay.2 qy d.2 e.2 }

/-! ## Motion delivery (R139) and the owner afresh (R138 step 3, R143) -/

/-- R139 for the pointer channel: `entered` says that the pointer channel has just changed. -/
def deliverMotion (entered : Bool) (wheel pan : Int) (s : State) : State :=
  match s.pointer.channel with
  | none => s
  | some c =>
    if s.deliverable c then
      match s.mapPoint c s.pointer.x s.pointer.y with
      | none => s
      | some a =>
        if nth s.pointer.lastAbs c ≠ some a ∨ entered = true ∨ wheel ≠ 0 ∨ pan ≠ 0 then
          let s1 := offer c .absolutePointer (absoluteBytes (s.held c) a.1 a.2 wheel pan) s
          s1.setPointer { s1.pointer with lastAbs := put s1.pointer.lastAbs c (some a) }
        else s
    else s

/-- The owner of P as the Pointer Engine takes it; a parked pointer's owner is none (R143). -/
def State.ownerOfPointer (s : State) : Option Chan :=
  if s.pointer.parked then none else s.ownerAt s.pointer.x s.pointer.y

/-- The pointer channel set without a notice. -/
def setPointerChannel (c : Option Chan) (s : State) : State :=
  s.setPointer { s.pointer with channel := c }

/-- The owner of P taken afresh (R138 step 3, R143 step 2): the answer says whether the pointer channel changed. -/
def takeOwner (s : State) : Bool × State :=
  if s.ownerOfPointer = s.pointer.channel then (false, s)
  else (true, pointerNotice s.ownerOfPointer (setPointerChannel s.ownerOfPointer s))

/-- Steps 2 and 3 of R143. -/
def ownerAndPosition (s : State) : State :=
  let r := takeOwner s
  if r.2.pointer.parked then r.2 else deliverMotion r.1 0 0 r.2

/-! ## Re-homing, parking, desk notices (R142 to R144) -/

/-- The centre of a monitor (R142). -/
def centreOf (r : Rect) : Nat × Nat := (r.x + r.w / 2, r.y + r.h / 2)

/-- To re-home on a monitor (R142). -/
def rehome (m : Monitor) (s : State) : State :=
  let p := centreOf (s.monitorRect m)
  s.setPointer { s.pointer with x := p.1, y := p.2, fx := 0, fy := 0, parked := false }

/-- To park (R142). -/
def park (s : State) : State :=
  s.setPointer { s.pointer with x := 0, y := 0, fx := 0, fy := 0, parked := true }

/-- R142. -/
def rehomeOrPark (s : State) : State :=
  match s.liveMonitors with
  | [] => if s.pointer.parked then s else park s
  | m :: _ =>
    if s.pointer.parked then rehome m s
    else match s.monitorAt s.pointer.x s.pointer.y with
      | some _ => s
      | none => rehome m s

/-- A park while captive sets the pointer channel to none, with a pointer notice (R144). -/
def parkedWhileCaptive (s : State) : State :=
  if s.pointer.parked = true ∧ s.pointer.channel ≠ none then
    pointerNotice none (setPointerChannel none s)
  else s

/-- A desk notice (R143, R144). -/
def deskNotice (s : State) : State :=
  let s1 := rehomeOrPark s
  if s1.captive then parkedWhileCaptive s1 else ownerAndPosition s1

/-! ## Buttons (R77, R140, R141) -/

/-- A button's release (R141); `carrier` is the focus channel of captive form, whose captive report carries the change. -/
def releaseButton (carrier : Option Chan) (s : State) (b : Button) : State :=
  match nth s.pointer.buttons b with
  | none => s
  | some .consumed => s.setButton b none
  | some (.channel c .queued) =>
    (placeRelease c (.buttonUp b false) (forgetButton c b s)).setButton b none
  | some (.channel c .delivered) =>
    let s1 :=
      if s.deliverable c then
        let s2 := s.setHeld c (put (s.held c) b false)
        if carrier = some c then s2 else sendButtons c s2
      else settleButton c b s
    s1.setButton b none

/-- A press offered to the hold decision for channel c (R77, R140); `report` says whether a delivered press sends its own
button-state report. -/
def offerButton (report : Bool) (c : Chan) (b : Button) (s : State) : State :=
  match offerDown c (.buttonDown b true) s with
  | (.deliver, s1) =>
    let s2 := (s1.setHeld c (put (s1.held c) b true)).setButton b (some (.channel c .delivered))
    if report then sendButtons c s2 else s2
  | (.queued, s1) => s1.setButton b (some (.channel c .queued))
  | (.refused, s1) => s1.setButton b (some .consumed)
  | (.discarded, s1) => s1.setButton b (some .consumed)

/-- A press in absolute form goes to the pointer channel left by step 3, whatever the press notice causes (R140). -/
def pressAbsolute (c : Option Chan) (s : State) (b : Button) : State :=
  match c with
  | none => s.setButton b (some .consumed)
  | some c => offerButton true c b (pressNotice c s)

/-- A press in captive form (R77). -/
def pressCaptive (f : Chan) (s : State) (b : Button) : State := offerButton false f b s

/-! ## Samples (R76, R138) -/

/-- Steps 2 to 4 of R138 when the pointer is not parked. -/
def moveAndDeliver (sm : Sample) (s : State) : State :=
  let r := takeOwner (movePointer sm.dx sm.dy s)
  deliverMotion r.1 sm.wheel sm.pan r.2

/-- R138. It is one step, so no arrival at another block is taken between two of its steps, which R138 would allow (DESIGN
CHOICE, log 27). -/
def absoluteSample (sm : Sample) (s : State) : State :=
  let s1 := sm.releases.foldl (releaseButton none) s
  let s2 := if s1.pointer.parked then s1 else moveAndDeliver sm s1
  sm.presses.foldl (pressAbsolute s2.pointer.channel) s2

/-- Step 4 of R76: the report, when the motion or F's button state calls for it. -/
def captiveReport (f : Chan) (sm : Sample) (before : Vector Bool 5) (s : State) : State :=
  let dx := clampInt 127 sm.dx
  let dy := clampInt 127 sm.dy
  if s.deliverable f ∧
      (dx ≠ 0 ∨ dy ≠ 0 ∨ sm.wheel ≠ 0 ∨ sm.pan ≠ 0 ∨ s.held f ≠ before) then
    offer f .relativePointer (relativeBytes (s.held f) dx dy sm.wheel sm.pan) s
  else s

/-- R76, with F the focus channel. -/
def captiveSample (f : Chan) (sm : Sample) (s : State) : State :=
  let s1 := sm.releases.foldl (releaseButton (some f)) s
  let s2 := sm.presses.foldl (pressCaptive f) s1
  captiveReport f sm (s.held f) s2

/-- A sample taken in the form of the moment (R125). -/
def takeSample (sm : Sample) (s : State) : State :=
  match s.focus.channel with
  | none => absoluteSample sm s
  | some f => if s.captive then captiveSample f sm s else absoluteSample sm s

end Sys2Proof.Machine
end

