-- ==== Sys2Proof/Machine/Placing.lean ====
section
/-! DEFINITION. Layouts placed and settled (R114 to R118), frame starts (R106, R117), liveness changes (R105), and focus requests with captive's end (R69, R75, R144). -/

namespace Sys2Proof.Machine

/-! ## Layouts (R114 to R118) -/

/-- A layout checked again and made active, or discarded with the events of R114 (R117, R118). No layout is pending on
the monitor afterwards. -/
def settleLayout (m : Monitor) (l : Layout) (o : Origin) (s : State) : State :=
  let g := geometryOk s.tables m l
  let x := mixOk s.tables s.mgmt.policy l
  if g && x then
    latch .layoutApplied (s.setMonitorRun m { s.monitorRun m with
      active := l, activeOrigin := o, waiting := none })
  else
    latchRefusals (!g) (!x) (s.setMonitorRun m { s.monitorRun m with waiting := none })

/-- The pending layout of a monitor settled, if there is one (R117, R118). -/
def settleWaiting (m : Monitor) (s : State) : State :=
  match (s.monitorRun m).waiting with
  | none => s
  | some w => settleLayout m w.1 w.2 s

/-- Placing a layout (R116): pending on a live monitor, applied at once on another. -/
def placeLayout (m : Monitor) (l : Layout) (o : Origin) (s : State) : State :=
  if s.live m then s.setMonitorRun m { s.monitorRun m with waiting := some (l, o) }
  else settleLayout m l o s

/-- The outcomes of a recall and of SET_LAYOUT (R114, R115). -/
inductive PlaceOutcome where
  | accepted
  | refused
  deriving DecidableEq, Repr

/-- A part of a preset fails the geometry check (R114). -/
def State.partFailsGeometry (s : State) (p : Preset) (m : Monitor) : Bool :=
  match nth p m with
  | none => false
  | some l => !geometryOk s.tables m l

/-- A part of a preset fails the mix rule (R114). -/
def State.partFailsMix (s : State) (p : Preset) (m : Monitor) : Bool :=
  match nth p m with
  | none => false
  | some l => !mixOk s.tables s.mgmt.policy l

/-- One part of a recalled preset placed (R114). -/
def placePart (n : Fin 16) (p : Preset) (s : State) (m : Monitor) : State :=
  match nth p m with
  | none => s
  | some l => placeLayout m l (.preset n) s

/-- R114. -/
def recallPreset (n : Fin 16) (s : State) : PlaceOutcome × State :=
  let p := nth s.tables.presets n
  let g := allMonitors.any (s.partFailsGeometry p)
  let x := allMonitors.any (s.partFailsMix p)
  if g || x then (.refused, latchRefusals g x s)
  else (.accepted, allMonitors.foldl (placePart n p) s)

/-- R115 for a monitor number and a well-formed layout. -/
def setLayoutOn (m : Monitor) (l : Layout) (s : State) : PlaceOutcome × State :=
  let g := geometryOk s.tables m l
  let x := mixOk s.tables s.mgmt.policy l
  if g && x then (.accepted, placeLayout m l .setLayout s)
  else (.refused, latchRefusals (!g) (!x) s)

/-! ## Frame starts and liveness (R105, R106, R117) -/

/-- The picture of the frame that begins (R106, R110). -/
def fixPicture (m : Monitor) (s : State) : State :=
  s.setMonitorRun m { s.monitorRun m with picture := some (s.pictureOf m) }

/-- The pending layout passes its check at this moment. -/
def State.waitingPasses (s : State) (m : Monitor) : Bool :=
  match (s.monitorRun m).waiting with
  | none => false
  | some w => s.layoutOk m w.1

/-- A frame start of a live monitor (R106): the pending layout is settled, the picture fixed, and a layout that became
active brings a desk notice (R117, R121). -/
def beginFrame (m : Monitor) (s : State) : State :=
  let s1 := fixPicture m (settleWaiting m s)
  if s.waitingPasses m then deskNotice s1 else s1

/-- A monitor has become live: its output begins with a frame start, and a desk notice follows (R105, R106). -/
def becomeLive (m : Monitor) (s : State) : State := deskNotice (beginFrame m s)

/-- A monitor has ceased to be live: a pending layout is applied at once, the output stops, and a desk notice follows
(R105, R118). -/
def ceaseLive (m : Monitor) (s : State) : State :=
  let s1 := settleWaiting m s
  deskNotice (s1.setMonitorRun m { s1.monitorRun m with picture := none })

/-! ## Focus requests (R69, R75) -/

/-- The carrying out of a change with cause HOTKEY or MANAGEMENT: R70, and where captive ends, the owner of the frozen P
taken afresh (R75, R144; log 23). -/
def changeFocus (cause : Cause) (n : Chan) (s : State) : State :=
  let s1 := focusSteps cause n s
  if s.captive && !s1.captive then ownerAndPosition s1 else s1

/-- A request for a focus change from the Hotkey Matcher or the Management Unit (R69). -/
def requestFocus (cause : Cause) (n : Chan) (s : State) : Verdict × State :=
  match judgeFocus cause n s with
  | .changed => (.changed, changeFocus cause n s)
  | v => (v, s)

end Sys2Proof.Machine
end

