-- ==== Sys2Proof/Machine/Playback.lean ====
section
/-! DEFINITION. The Macro Player: start (R88), steps (R89, R90), ending (R91 to R93), the served channel's link (R94 to R96), and the meaning of MACRO_STEP_EXPIRY. -/

namespace Sys2Proof.Machine

/-! ## Start (R88) -/

/-- The outcomes of a start (R88). -/
inductive StartOutcome where
  | started
  | waiting
  | aborted
  | busy
  deriving DecidableEq, Repr

/-- The record at a start: the playing copy, step 1, one step interval to wait (R88). -/
def State.freshPlayer (s : State) (m : Fin 8) (c : Chan) (playing : Bool) : Player :=
  { playing := playing, number := m, chan := c, copy := nth s.tables.macros m, index := 1,
    tapHalf := none, wait := (nth s.tables.macros m).interval, pressed := [] }

def setPlayer (p : Option Player) (s : State) : State := { s with player := p }

/-- The player begins with its record, and the count of skipped steps at 0 (R88). -/
def beginMacro (p : Player) (s : State) : State := { s with player := some p, skipped := 0 }

/-- R88. -/
def startMacro (m : Fin 8) (c : Chan) (s : State) : StartOutcome × State :=
  match s.player with
  | some _ => (.busy, s)
  | none =>
    match (s.link c).state with
    | .active => (.started, beginMacro (s.freshPlayer m c true) s)
    | .detached => (.aborted, latch .macroAborted s)
    | .suspended =>
      match wakeRequest c s with
      | (.started, s1) => (.waiting, beginMacro (s.freshPlayer m c false) s1)
      | (_, s1) => (.aborted, latch .macroAborted s1)
    | .waking =>
      (.waiting, beginMacro (s.freshPlayer m c false) (wakeRequest c s).2)

/-! ## Ending (R92) -/

/-- The ending procedure with MACRO_DONE or MACRO_ABORTED (R92). -/
def endMacro (e : Event) (s : State) : State :=
  match s.player with
  | none => s
  | some pl =>
    let lowered := lowerAll pl.chan pl.pressed s
    if (s.link pl.chan).state = .active then
      drain pl.chan (latch e (setPlayer none (sendKeyboard pl.chan lowered)))
    else latch e (setPlayer none lowered)

/-- CANCEL of the player (R93). -/
def cancelMacro (s : State) : State := endMacro .macroAborted s

/-! ## Steps (R89, R90) -/

/-- The player after something took effect: the next wait and step index (R89). Past the last step the macro is complete
and ends with MACRO_DONE (R91). A wait of 0 is left running like any other: its expiry is the next MACRO_STEP_EXPIRY, before
which another arrival may be taken (DESIGN CHOICE, log 28). -/
def advance (wait index : Nat) (s : State) : State :=
  match s.player with
  | none => s
  | some pl =>
    if pl.copy.steps.length < index then endMacro .macroDone s
    else setPlayer (some { pl with wait := wait, index := index }) s

/-- A skipped press is counted (R90). -/
def countSkipped (s : State) : State := { s with skipped := s.skipped + 1 }

/-- The tap half recorded or cleared (R90). -/
def setTapHalf (h : Option Code) (s : State) : State :=
  match s.player with
  | none => s
  | some pl => setPlayer (some { pl with tapHalf := h }) s

/-- The step at the step index (R89, R90). -/
def playStep (pl : Player) (st : MacroStep) (s : State) : State :=
  let interval := pl.copy.interval
  match st with
  | .press k =>
    match playerPress pl k s with
    | (true, s1) => advance interval (pl.index + 1) (countSkipped s1)
    | (false, s1) => advance interval (pl.index + 1) s1
  | .release k => advance interval (pl.index + 1) (playerRelease pl k s)
  | .tap k =>
    match playerPress pl k s with
    | (true, s1) => advance interval (pl.index + 1) (countSkipped s1)
    | (false, s1) => advance interval pl.index (setTapHalf (some k) s1)
  | .pause n => advance n (pl.index + 1) s

/-- The release half of a TAP (R89, R90). -/
def releaseHalf (pl : Player) (k : Code) (s : State) : State :=
  advance pl.copy.interval (pl.index + 1) (setTapHalf none (playerRelease pl k s))

/-- The step timer of a PLAYING player expires (R89). -/
def stepExpiry (pl : Player) (s : State) : State :=
  match pl.tapHalf with
  | some k => releaseHalf pl k s
  | none =>
    match pl.copy.steps[pl.index - 1]? with
    | some st => playStep pl st s
    | none => endMacro .macroDone s

/-- MACRO_STEP_EXPIRY (R89): the timer runs in PLAYING alone; elsewhere no expiry takes place (log 7). -/
def execMacroStepExpiry (s : State) : Host.Outcome State Fault Refusal :=
  match s.player with
  | none => .next s
  | some pl => if pl.playing then .next (stepExpiry pl s) else .next s

/-! ## The served channel's link (R94 to R96) -/

/-- The Link Controller's word at a suspend of c (R94). -/
def playerSuspended (c : Chan) (s : State) : State :=
  match s.player with
  | none => s
  | some pl =>
    if pl.chan = c ∧ pl.playing = true then
      let r := wakeRequest c (setPlayer (some { pl with playing := false }) s)
      match r.1 with
      | .denied => endMacro .macroAborted r.2
      | _ => r.2
    else s

/-- The Link Controller's word at a resume of c (R95): WAIT_LINK goes to PLAYING with the kept wait length. -/
def playerResumed (c : Chan) (s : State) : State :=
  match s.player with
  | none => s
  | some pl => if pl.chan = c then setPlayer (some { pl with playing := true }) s else s

/-- The Link Controller's word at a wake failure of c (R9, R95). -/
def playerWakeFailed (c : Chan) (s : State) : State :=
  if s.serves c then endMacro .macroAborted s else s

/-- The Link Controller's word at a loss of c's link (R96): no report and no drain. -/
def playerLost (c : Chan) (s : State) : State :=
  if s.serves c then latch .macroAborted (setPlayer none s) else s

end Sys2Proof.Machine
end

