-- ==== Sys2Proof/Machine/Writes.lean ====
section
/-! DEFINITION. Table writes: the checks of R167 (R1, R31, R45, R86, R103, R104, R113, R120, R163, R168) and the effects of an applied write (R75, R102, R105, R106, R121, R143, R184). -/

namespace Sys2Proof.Machine

/-! ## Written records put in place -/

/-- An entry of a fixed table replaced by number. -/
def putAt {α : Type} {n : Nat} (v : Vector α n) (k : Nat) (a : α) : Vector α n :=
  if h : k < n then put v ⟨k, h⟩ a else v

/-- Consecutive records put in place from a position; a record with a structural fault is left as it was (log 14). -/
def install {α : Type} {n : Nat} : Vector α n → Nat → List (Option (α × Bool)) → Vector α n
  | v, _, [] => v
  | v, k, none :: t => install v (k + 1) t
  | v, k, some r :: t => install (putAt v k r.1) (k + 1) t

/-- Whether each written record is well formed and, if so, whether a setting of it was clamped. -/
abbrev Marks := List (Option Bool)

def marksOf {α : Type} (rs : List (Option (α × Bool))) : Marks := rs.map fun r => r.map (·.2)

/-- The record of a single-record table, if a written one is well formed. -/
def lastRecord {α : Type} (old : α) (rs : List (Option (α × Bool))) : α :=
  rs.foldl (fun a r => match r with
    | none => a
    | some b => b.1) old

/-- The tables with the written images in place from position `pos`, and the marks of the written records. -/
def writtenTables (t : Table) (pos : Nat) (imgs : List (List Byte)) (T : Tables) :
    Tables × Marks :=
  match t with
  | .channels =>
    let rs := imgs.map parseChannel
    ({ T with channels := install T.channels pos rs }, marksOf rs)
  | .authority =>
    let rs := imgs.map parseAuthority
    ({ T with authority := install T.authority pos rs }, marksOf rs)
  | .heads =>
    let rs := imgs.map parseHead
    ({ T with heads := install T.heads pos rs }, marksOf rs)
  | .monitors =>
    let rs := imgs.map parseMonitor
    ({ T with monitors := install T.monitors pos rs }, marksOf rs)
  | .presets =>
    let rs := imgs.map parsePreset
    ({ T with presets := install T.presets pos rs }, marksOf rs)
  | .hotkeys =>
    let rs := imgs.map parseHotkey
    ({ T with hotkeys := install T.hotkeys pos rs }, marksOf rs)
  | .keymaps =>
    let rs := imgs.map parseKeymap
    ({ T with keymaps := install T.keymaps pos rs }, marksOf rs)
  | .macros =>
    let rs := imgs.map parseMacro
    ({ T with macros := install T.macros pos rs }, marksOf rs)
  | .ballistics =>
    let rs := imgs.map parseBallistics
    ({ T with ballistics := lastRecord T.ballistics rs }, marksOf rs)
  | .desk =>
    let rs := imgs.map parseDesk
    ({ T with desk := lastRecord T.desk rs }, marksOf rs)

/-! ## Cross checks -/

/-- A head lies inside its owner's desktop (R103). -/
def headFits (T : Tables) (h : Head) : Bool :=
  let r := nth T.heads h
  match r.owner with
  | none => true
  | some c => r.ox + r.width ≤ (nth T.channels c).width && r.oy + r.height ≤ (nth T.channels c).height

/-- Every head owned by a channel fits its desktop (R103). -/
def desktopHolds (T : Tables) (c : Chan) : Bool :=
  allHeads.all fun h => (nth T.heads h).owner != some c || headFits T h

/-- An enabled monitor shares a point with another enabled one (R104). -/
def monitorOverlaps (T : Tables) (m : Monitor) : Bool :=
  (nth T.monitors m).enabled && allMonitors.any fun k =>
    k != m && (nth T.monitors k).enabled
      && (nth T.monitors m).rect.meets (nth T.monitors k).rect

/-- At least one channel has floor 0 (R163). -/
def someFloorZero (T : Tables) : Bool := allChans.any fun c => nth T.authority c == 0

/-- The layouts in use: the active and the pending layouts of all monitors (R120). -/
def State.layoutsInUse (s : State) : List (Monitor × Layout) :=
  allMonitors.flatMap fun m =>
    (m, (s.monitorRun m).active) ::
      (match (s.monitorRun m).waiting with
       | none => []
       | some w => [(m, w.1)])

/-- A layout in use would fail a check with the written records in place (R120). -/
def State.breaksInUse (s : State) (T : Tables) : Bool :=
  s.layoutsInUse.any fun u => !geometryOk T u.1 u.2 || !mixOk T s.mgmt.policy u.2

/-- A group lacks MIX with another group of a layout (R109). -/
def clashes (T : Tables) (P : Policy) (l : Layout) (g : Group) : Bool :=
  (groupsOf T l).any fun a => !P.mixes g a

/-- A tile shows a given head. -/
def Tile.shows (t : Tile) (h : Head) : Bool :=
  match t.content with
  | none => false
  | some v => v.head == h

/-- A tile whose group the write changed and which now clashes in its layout (R120, log 15). -/
def State.tileBreaksMix (s : State) (T : Tables) (l : Layout) (t : Tile) : Bool :=
  match tileGroup T t with
  | none => false
  | some g => tileGroup s.tables t != some g && clashes T s.mgmt.policy l g

/-- The new contents of a monitor's record make one of its layouts fail (R120). -/
def State.monitorBreaks (s : State) (T : Tables) (m : Monitor) : Bool :=
  s.layoutsInUse.any fun u => u.1 == m && !geometryOk T m u.2

/-- The new contents of a head's record make a layout that shows it fail (R120). -/
def State.headBreaks (s : State) (T : Tables) (h : Head) : Bool :=
  s.layoutsInUse.any fun u => u.2.any fun t =>
    t.shows h && (!tileFits T u.1 t || s.tileBreaksMix T u.2 t)

/-- The new contents of a channel's record make a layout that shows one of its heads fail (R120). -/
def State.channelBreaks (s : State) (T : Tables) (c : Chan) : Bool :=
  s.layoutsInUse.any fun u => u.2.any fun t =>
    (match t.content with
     | none => false
     | some v => (nth T.heads v.head).owner == some c) && s.tileBreaksMix T u.2 t

/-- The written positions at which a check by position fails. -/
def failingAt {n : Nat} (written : List Nat) (bad : Fin n → Bool) : List Nat :=
  written.filter fun k => match finOf? n k with
    | none => false
    | some i => bad i

/-- The positions R120 names: those whose new contents cause a failure; were there none, the lowest written (log 15). -/
def State.inUseFaults (s : State) (T : Tables) (written causes : List Nat) : List Nat :=
  if s.breaksInUse T then (if causes = [] then written.take 1 else causes) else []

/-- The written positions that fail a check across records or tables (R167), with the written records in place. -/
def State.crossFaults (s : State) (t : Table) (T : Tables) (written : List Nat) : List Nat :=
  match t with
  | .channels =>
    failingAt written (fun c => !desktopHolds T c)
      ++ s.inUseFaults T written (failingAt written (s.channelBreaks T))
  | .authority => if someFloorZero T then [] else written.take 1
  | .heads =>
    failingAt written (fun h => !headFits T h)
      ++ s.inUseFaults T written (failingAt written (s.headBreaks T))
  | .monitors =>
    failingAt written (monitorOverlaps T)
      ++ s.inUseFaults T written (failingAt written (s.monitorBreaks T))
  | _ => []

/-- The positions of written records with a structural fault of their own. -/
def malformedAt : Nat → Marks → List Nat
  | _, [] => []
  | k, none :: t => k :: malformedAt (k + 1) t
  | k, some _ :: t => malformedAt (k + 1) t

/-- The lowest of a list of numbers. -/
def lowestOf : List Nat → Option Nat
  | [] => none
  | a :: t => some (t.foldl min a)

/-- The verdict on a write (R167): refused, with a failing index where a rule gives one, or the tables it leaves and
whether a setting was clamped. -/
inductive WriteVerdict where
  | refused (index : Option Nat)
  | applies (T : Tables) (adjusted : Bool)
  deriving DecidableEq, Repr

/-- Check 7 of a WRITE_TABLE (R162, R167). -/
def checkWrite (t : Table) (f : Frame) (s : State) : WriteVerdict :=
  if frameOk .writeTable f && rangeOk t f then
    let pos := f.first.toNat - firstIndex t
    let imgs := chunks (recordBytes t) f.count.toNat f.payload
    let w := writtenTables t pos imgs s.tables
    let written := (List.range f.count.toNat).map (pos + ·)
    match lowestOf (malformedAt pos w.2 ++ s.crossFaults t w.1 written) with
    | some k => .refused (some (k + firstIndex t))
    | none => .applies w.1 (w.2.any fun a => a == some true)
  else .refused none

/-! ## Effects of an applied write -/

def State.withTables (s : State) (T : Tables) : State := { s with tables := T }

/-- The moment captive may begin or end without a focus change (R75). -/
def captiveChanged (before : Bool) (s : State) : State :=
  if before && !s.captive then ownerAndPosition s
  else if !before && s.captive then cancelDwell s
  else s

/-- A CHANNELS write changes a desktop size (R121) or a pointer mode (R143) of some channel. -/
def movesTargets (old new : Tables) : Bool :=
  allChans.any fun c =>
    (nth old.channels c).width != (nth new.channels c).width
      || (nth old.channels c).height != (nth new.channels c).height
      || (nth old.channels c).pointerMode != (nth new.channels c).pointerMode

/-- A CHANNELS write applied (R75, R121, R143). -/
def applyChannels (T : Tables) (s : State) : State :=
  let s1 := captiveChanged s.captive (s.withTables T)
  if movesTargets s.tables T then deskNotice s1 else s1

/-- FORMAT_MISMATCH where a LOCKED head's configured size has changed and differs from the detected one (R102). -/
def mismatchAt (old : Tables) (s : State) (h : Head) : State :=
  let a := nth old.heads h
  let b := nth s.tables.heads h
  match nth s.display.heads h with
  | none => s
  | some d =>
    if (a.width ≠ b.width ∨ a.height ≠ b.height) ∧ d ≠ (b.width, b.height) then
      latch .formatMismatch s
    else s

/-- A HEADS write applied (R102, R121): FORMAT_MISMATCH is latched, for the heads in ascending number, before the desk notice
(DESIGN CHOICE, log 13). -/
def applyHeads (T : Tables) (s : State) : State :=
  deskNotice (allHeads.foldl (mismatchAt s.tables) (s.withTables T))

/-- What a MONITORS write does to one monitor: its liveness (R105) or its output timing (R106). `before` is the state
before the write. -/
def retimeMonitor (before s : State) (m : Monitor) : State :=
  let a := nth before.tables.monitors m
  let b := nth s.tables.monitors m
  if before.live m then
    if s.live m then
      if a.width ≠ b.width ∨ a.height ≠ b.height ∨ a.refresh ≠ b.refresh then beginFrame m s else s
    else ceaseLive m s
  else if s.live m then becomeLive m s else s

/-- A MONITORS write applied (R105, R106, R121); the monitors are taken in ascending number (log 13). -/
def applyMonitors (T : Tables) (s : State) : State :=
  deskNotice (allMonitors.foldl (retimeMonitor s) (s.withTables T))

/-- A DESK write applied: a new alert channel clears the flag, and may be sent a report at once (R184). -/
def applyDesk (T : Tables) (s : State) : State :=
  let s1 := s.withTables T
  if s.tables.desk.alertChannel = T.desk.alertChannel then s1
  else alertWhenActive (s1.setMgmt { s1.mgmt with alertOutstanding := false })

/-- A write applied to its table, with what it brings about at once (R167). -/
def applyWrite (t : Table) (T : Tables) (s : State) : State :=
  match t with
  | .channels => applyChannels T s
  | .heads => applyHeads T s
  | .monitors => applyMonitors T s
  | .desk => applyDesk T s
  | _ => s.withTables T

end Sys2Proof.Machine
end

