-- ==== Sys2Proof/Machine/Responses.lean ====
section
/-! DEFINITION. Response slots (R161, R164) and the confirm window (R173 to R176), with the meaning of CONFIRM_WINDOW_EXPIRY. -/

namespace Sys2Proof.Machine

/-- The number of a status (11.3). -/
def statusNumber : Status → Nat
  | .ok => 0
  | .okAdjusted => 1
  | .denied => 2
  | .locked => 3
  | .invalid => 4
  | .busy => 5
  | .working => 6
  | .pendingConfirm => 7
  | .declined => 8
  | .expired => 9
  | .unknownCommand => 10
  | .storeFault => 11

/-- A response frame (11.3). -/
def responseBytes (r : Response) : List Byte :=
  [1, r.tag, byteOf (statusNumber r.status), r.summary, flagByte r.adjusted]
    ++ word16 r.payload.length ++ r.payload

/-- The empty response: seven bytes of 0 (11.3). -/
def emptyResponse : List Byte := List.replicate 7 0

/-- What a request's work answers: a status, a payload, and the deferred outcome it waits for. -/
structure Reply where
  status  : Status
  payload : List Byte
  awaits  : Option Awaits
  deriving DecidableEq, Repr

/-- A status with a payload. -/
def Reply.of (st : Status) (payload : List Byte) : Reply := ⟨st, payload, none⟩

/-- A status with an empty payload. -/
def Reply.bare (st : Status) : Reply := ⟨st, [], none⟩

/-- INVALID with the failing index where the rule gives one (R161, 11.3). -/
def Reply.invalidAt (index : Option Nat) : Reply :=
  .of .invalid (match index with
    | none => []
    | some i => [byteOf i])

def State.setSlot (s : State) (c : Chan) (r : Option Response) : State :=
  s.setMgmt { s.mgmt with slots := put s.mgmt.slots c r }

/-- A response written into the channel's slot and offered on its management interface (R161, R164). The summary byte is
that of the latch as it now stands. -/
def respond (c : Chan) (tag : Byte) (adjusted : Bool) (r : Reply) (s : State) : State :=
  let resp : Response :=
    { tag := tag, status := r.status, summary := s.summary, adjusted := adjusted,
      payload := r.payload, awaits := r.awaits }
  offer c .management (responseBytes resp) (s.setSlot c (some resp))

/-- A deferred outcome (R164): written only when the slot still holds the response that waits for it. The adjusted flag
is that of the response it replaces (log 17). -/
def deferredOutcome (a : Awaits) (c : Chan) (r : Reply) (s : State) : State :=
  match nth s.mgmt.slots c with
  | none => s
  | some old => if old.awaits = some a then respond c old.tag old.adjusted r s else s

/-! ## The confirm window (R174 to R176) -/

def setConfirm (cf : Option Confirm) (s : State) : State :=
  s.setMgmt { s.mgmt with confirm := cf }

/-- A confirm-class request taken into the window (R175); the answer is the reply. -/
def takeConfirm (kind : ConfirmKind) (c : Chan) (f : Frame) (s : State) : Reply × State :=
  (⟨.pendingConfirm, [], some .confirm⟩,
   requestCue .wait (setConfirm (some ⟨c, kind, f, s.tables.desk.confirmWindow⟩) s))

/-- The policy a SET_POLICY payload carries (11.3): bit 0 MIX, bit 1 GLIDE, one byte per pair. -/
def policyOf (payload : List Byte) : Policy :=
  { mix := Vector.ofFn fun i => (payload.getD i.val 0).getLsbD 0
    glide := Vector.ofFn fun i => (payload.getD i.val 0).getLsbD 1 }

/-- The check of a SET_POLICY at confirmation (R173, R185). -/
def policyPayloadOk (f : Frame) : Bool :=
  frameOk .setPolicy f && f.payload.all fun b => b.toNat < 4

def setPolicy (p : Policy) (s : State) : State :=
  s.setMgmt { s.mgmt with policy := p, policyWritten := true }

def State.locked (s : State) (t : Table) : Bool := nth s.mgmt.locks (tableIndex t)

/-- The copy checked and applied at CONFIRM, against the tables as they stand (R176). -/
def applyConfirmed (cf : Confirm) (s : State) : Reply × State :=
  match cf.kind with
  | .authorityWrite =>
    if s.locked .authority then (.bare .locked, s)
    else match checkWrite .authority cf.frame s with
      | .refused i => (.invalidAt i, s)
      | .applies T _ => (.bare .ok, applyWrite .authority T s)
  | .setPolicy =>
    if policyPayloadOk cf.frame then (.bare .ok, setPolicy (policyOf cf.frame.payload) s)
    else (.bare .invalid, s)

/-- CONFIRM of a pending request (R176). -/
def confirmPending (cf : Confirm) (s : State) : State :=
  let r := applyConfirmed cf (setConfirm none s)
  deferredOutcome .confirm cf.chan r.1 (latch .confirmDone r.2)

/-- CANCEL or a desk restart of a pending request (R176). -/
def declinePending (cf : Confirm) (s : State) : State :=
  deferredOutcome .confirm cf.chan (.bare .declined) (setConfirm none s)

/-- The window's expiry (R176). -/
def expirePending (cf : Confirm) (s : State) : State :=
  deferredOutcome .confirm cf.chan (.bare .expired)
    (requestCue .fail (latch .confirmExpired (setConfirm none s)))

/-- CONFIRM_WINDOW_EXPIRY (R176): the timer runs while the record is PENDING; elsewhere no expiry takes place (log 7). -/
def execConfirmWindowExpiry (s : State) : Host.Outcome State Fault Refusal :=
  match s.mgmt.confirm with
  | none => .next s
  | some cf => .next (expirePending cf s)

end Sys2Proof.Machine
end

