-- ==== Sys2Proof/Machine/Hotkeys.lean ====
section
/-! DEFINITION. The Hotkey Matcher: matching (R47, R48), the attention machine (R50 to R55), the actions (R57 to R65), and the meanings of TAP_WINDOW_EXPIRY and ARM_WINDOW_EXPIRY. -/

namespace Sys2Proof.Machine

/-! ## Matching (R47, R48) -/

/-- Every right-hand modifier replaced by its left-hand partner (R47). -/
def foldSides (m : Byte) : Byte := (m ||| (m >>> 4)) &&& 0x0F

/-- The held set restricted to the mask equals the compare set restricted to the mask, folded where side fold applies
(R47). -/
def modifiersMatch (h : HotkeyEntry) (held : Byte) : Bool :=
  if h.sideFold then
    (foldSides held &&& foldSides h.mask) == (foldSides h.compare &&& foldSides h.mask)
  else (held &&& h.mask) == (h.compare &&& h.mask)

/-- The port condition of an entry (R47). -/
def PortChoice.accepts (c : PortChoice) (p : Port) : Bool :=
  match c with
  | .only q => q == p
  | .any => true

/-- R47. -/
def entryMatches (h : HotkeyEntry) (p : Port) (k : Code) (held : Byte) : Bool :=
  h.enabled && h.port.accepts p && h.trigger == k && modifiersMatch h held

/-- The lowest-numbered entry of a kind that matches (R44, R48, R54). -/
def State.findHotkey (s : State) (kind : HotkeyKind) (p : Port) (k : Code) : Option HotkeyEntry :=
  s.tables.hotkeys.toList.find? fun h => h.kind == kind && entryMatches h p k s.heldModifiers

/-! ## Actions (R57 to R65). Each answers whether it is refused, and the state. -/

/-- Refusal (R57): the REFUSED cue and HOTKEY_REFUSED. -/
def refuseAction (s : State) : State := latch .hotkeyRefused (requestCue .refused s)

/-- SELECT (R58). -/
def actSelect (arg : Option Chan) (s : State) : Bool × State :=
  match arg.or s.focus.channel with
  | none => (true, s)
  | some c =>
    if (s.link c).state = .detached then (true, s)
    else if s.focus.channel = some c then (false, s)
    else match requestFocus .hotkey c s with
      | (.changed, s1) => (false, s1)
      | (.unchanged, s1) => (false, s1)
      | (_, s1) => (true, s1)

/-- A channel of the cycle set (R59). -/
def State.inCycleSet (s : State) (c : Chan) : Bool :=
  (s.link c).state != .detached && (s.chanRec c).inCycle

/-- The channels NEXT examines, in order (R59). -/
def nextOrder (f : Option Chan) : List Chan :=
  match f with
  | none => allChans
  | some f => allChans.drop (f.val + 1) ++ allChans.take (f.val + 1)

/-- The channels PREVIOUS examines, in order (R59). -/
def previousOrder (f : Option Chan) : List Chan :=
  match f with
  | none => allChans.reverse
  | some f => (allChans.take f.val).reverse ++ (allChans.drop f.val).reverse

/-- NEXT and PREVIOUS (R59), with the channels in the order of the scan. -/
def actCycle (order : List Chan) (s : State) : Bool × State :=
  match order.find? s.inCycleSet with
  | none => (true, s)
  | some n =>
    if s.focus.channel = some n then (false, s)
    else match requestFocus .hotkey n s with
      | (.changed, s1) => (false, s1)
      | (.unchanged, s1) => (false, s1)
      | (_, s1) => (true, s1)

/-- PIN (R60, R152): setting pinned cancels a pending dwell. -/
def actPin (s : State) : Bool × State :=
  let s1 := if s.focus.pinned then s else cancelDwell s
  (false, requestCue .switch (s1.setFocus { s1.focus with pinned := !s1.focus.pinned }))

/-- GLIDE_TOGGLE (R60, R152): clearing glide enabled cancels a pending dwell. -/
def actGlideToggle (s : State) : Bool × State :=
  let s1 := if s.focus.glideEnabled then cancelDwell s else s
  (false, requestCue .switch
    (s1.setFocus { s1.focus with glideEnabled := !s1.focus.glideEnabled }))

/-- PRESET (R61). -/
def actPreset (p : Fin 16) (s : State) : Bool × State :=
  match recallPreset p s with
  | (.accepted, s1) => (false, s1)
  | (.refused, s1) => (true, s1)

/-- WAKE (R62). -/
def actWake (arg : Option Chan) (s : State) : Bool × State :=
  match arg.or s.focus.channel with
  | none => (true, s)
  | some c =>
    match wakeRequest c s with
    | (.started, s1) => (false, requestCue .wait s1)
    | (.inProgress, s1) => (false, s1)
    | (.awake, s1) => (false, s1)
    | (.denied, s1) => (true, s1)
    | (.absent, s1) => (true, s1)

/-- The channels WAKE_ALL requests a wake for (R63). -/
def State.wakeable (s : State) (c : Chan) : Bool :=
  (s.link c).state == .suspended && (s.link c).permission

/-- WAKE_ALL (R63). -/
def actWakeAll (s : State) : Bool × State :=
  match allChans.filter s.wakeable with
  | [] => (true, s)
  | cs => (false, requestCue .wait (cs.foldl (fun s c => (wakeRequest c s).2) s))

/-- MACRO (R64): only a busy player refuses; an immediate abort is no refusal. -/
def actPlay (m : Fin 8) (s : State) : Bool × State :=
  match s.focus.channel with
  | none => (true, s)
  | some c =>
    match startMacro m c s with
    | (.busy, s1) => (true, s1)
    | (_, s1) => (false, s1)

/-- CONFIRM (R65). -/
def actConfirm (s : State) : Bool × State :=
  match s.mgmt.confirm with
  | none => (true, s)
  | some cf => (false, confirmPending cf s)

/-- CANCEL (R65): a pending request is declined, then a player that serves is stopped. -/
def actCancel (s : State) : Bool × State :=
  let s1 := match s.mgmt.confirm with
    | none => s
    | some cf => declinePending cf s
  (s.mgmt.confirm.isNone && s.player.isNone, cancelMacro s1)

/-- The dispatch of an action (R57). -/
def act (a : Action) (s : State) : Bool × State :=
  match a with
  | .select c => actSelect c s
  | .next => actCycle (nextOrder s.focus.channel) s
  | .previous => actCycle (previousOrder s.focus.channel) s
  | .pin => actPin s
  | .glideToggle => actGlideToggle s
  | .preset p => actPreset p s
  | .wake c => actWake c s
  | .wakeAll => actWakeAll s
  | .play m => actPlay m s
  | .confirm => actConfirm s
  | .cancel => actCancel s

/-- An action carried out, or refused (R57). -/
def dispatchAction (a : Action) (s : State) : State :=
  let r := act a s
  if r.1 then refuseAction r.2 else r.2

/-! ## The examination of a key-down (R48 to R54) -/

/-- The Matcher's answers (R29). -/
inductive Answer where
  | consume
  | withhold
  | decline
  deriving DecidableEq, Repr

/-- Chord matching (R48). -/
def chordMatch (p : Port) (k : Code) (s : State) : Answer × State :=
  match s.findHotkey .chord p k with
  | some h => (.consume, dispatchAction h.action s)
  | none => (.decline, s)

def setAttention (a : Attention) (s : State) : State := { s with attention := a }

/-- IDLE (R50). -/
def examineIdle (p : Port) (k : Code) (s : State) : Answer × State :=
  if s.tables.desk.attentionCode ≠ 0 ∧ k = s.tables.desk.attentionCode then
    (.withhold, setAttention (.tapDown k p) s)
  else chordMatch p k s

/-- A non-modifier key in ARMED (R54). -/
def armedKey (p : Port) (k : Code) (s : State) : Answer × State :=
  let s1 := setAttention .idle s
  match s1.findHotkey .attention p k with
  | some h => (.consume, dispatchAction h.action s1)
  | none => (.consume, refuseAction s1)

/-- A key-down offered to the Matcher (R50 to R54). -/
def examine (p : Port) (k : Code) (s : State) : Answer × State :=
  match s.attention with
  | .idle => examineIdle p k s
  | .tapDown code q => chordMatch p k (setAttention .idle (routeKey q code s))
  | .tapUp code q _ =>
    if k = code then (.consume, setAttention (.armed s.tables.desk.armWindow) s)
    else chordMatch p k (setAttention .idle (lateTap q code s))
  | .armed _ => if isModifier k then chordMatch p k s else armedKey p k s

/-- A key-down (R29). -/
def keyDown (p : Port) (k : Code) (s : State) : State :=
  match examine p k s with
  | (.consume, s1) => s1.putKey p k .consumed
  | (.withhold, s1) => s1.putKey p k .pendingTap
  | (.decline, s1) => routeKey p k s1

/-! ## Window expiries -/

/-- TAP_WINDOW_EXPIRY (R53): the window runs in TAP_UP only; elsewhere no expiry takes place (log 7). -/
def execTapWindowExpiry (s : State) : Host.Outcome State Fault Refusal :=
  match s.attention with
  | .tapUp code p _ => .next (setAttention .idle (lateTap p code s))
  | _ => .next s

/-- ARM_WINDOW_EXPIRY (R55): the window runs in ARMED only; elsewhere no expiry takes place (log 7). -/
def execArmWindowExpiry (s : State) : Host.Outcome State Fault Refusal :=
  match s.attention with
  | .armed _ => .next (setAttention .idle s)
  | _ => .next s

end Sys2Proof.Machine
end

