-- ==== Sys2Proof/Machine/Keyboard.lean ====
section
/-! DEFINITION. The console keyboard ports: KEYBOARD_PORT_ATTACH (R23), KEYBOARD_PORT_DETACH (R24), KEYBOARD_REPORT (R25, R26). -/

namespace Sys2Proof.Machine

/-- A device attached to a keyboard port (R23). -/
def attachKeyboard (p : Port) (bootKeyboard : Bool) (s : State) : State :=
  if bootKeyboard then drivePort p (s.setKeyPort p ⟨.active, []⟩)
  else s.setKeyPort p { s.keyPort p with state := .rejected }

/-- KEYBOARD_PORT_ATTACH (R23). An attach occurs on an ABSENT port; a port that has a device takes none (log 7). -/
def execKeyboardPortAttach (p : Port) (bootKeyboard : Bool) (s : State) :
    Host.Outcome State Fault Refusal :=
  if (s.keyPort p).state = .absent then .next (attachKeyboard p bootKeyboard s) else .next s

/-- The console codes of a port's entries, ascending (R24). -/
def State.codesOf (s : State) (p : Port) : List Code :=
  (s.router.entries.filter fun e => e.port == p).map (·.code)

/-- The device of an ACTIVE keyboard port detached (R24): a key-up for every entry of the port, in ascending code. -/
def detachKeyboard (p : Port) (s : State) : State :=
  let s1 := s.setKeyPort p { s.keyPort p with state := .absent }
  let s2 := (s1.codesOf p).foldl (fun s k => keyUp p k s) s1
  s2.setKeyPort p ⟨.absent, []⟩

/-- KEYBOARD_PORT_DETACH (R24). -/
def execKeyboardPortDetach (p : Port) (s : State) : Host.Outcome State Fault Refusal :=
  match (s.keyPort p).state with
  | .absent => .next s
  | .rejected => .next (s.setKeyPort p { s.keyPort p with state := .absent })
  | .active => .next (detachKeyboard p s)

/-- The events of an accepted report, one by one: key-ups ascending, then key-downs ascending (R25). -/
def takeKeys (p : Port) (ups downs : List Code) (s : State) : State :=
  downs.foldl (fun s k => keyDown p k s) (ups.foldl (fun s k => keyUp p k s) s)

/-- An accepted report (R25), as the set of its codes. It is one step, so no arrival at another block is taken between two of
its events, which R25 would allow (DESIGN CHOICE, log 27). -/
def acceptReport (p : Port) (codes : List Code) (s : State) : State :=
  let last := (s.keyPort p).last
  let s1 := takeKeys p (last.filter fun k => !codes.contains k)
    (codes.filter fun k => !last.contains k) s
  s1.setKeyPort p { s1.keyPort p with last := codes }

/-- KEYBOARD_REPORT (R25, R26): taken on an ACTIVE port only. -/
def execKeyboardReport (p : Port) (r : KeyboardBytes) (s : State) :
    Host.Outcome State Fault Refusal :=
  if (s.keyPort p).state = .active then
    if reportHeld r then .next (latch .rollover s)
    else .next (acceptReport p (reportCodes r) s)
  else .next s

end Sys2Proof.Machine
end

