-- ==== Sys2Proof/Machine/Reset.lean ====
section
/-! DEFINITION. The resets: the table load (R172), POWER_ON_RESET (R21, R42, R66, R82, R98, R122, R147, R159, R180), and what a desk restart does to the blocks (R22, R43, R67, R83, R99, R123, R148, R160). -/

namespace Sys2Proof.Machine

/-! ## The load (R172) -/

/-- What the load has got so far: the tables, their stored signatures, and whether a table failed. -/
structure Loaded where
  tables     : Tables
  signatures : Vector (Option (BitVec 16)) 10
  failed     : Bool
  deriving DecidableEq, Repr

/-- A table set to its factory defaults. -/
def withFactory (t : Table) (T : Tables) : Tables :=
  match t with
  | .channels => { T with channels := factoryTables.channels }
  | .authority => { T with authority := factoryTables.authority }
  | .heads => { T with heads := factoryTables.heads }
  | .monitors => { T with monitors := factoryTables.monitors }
  | .presets => { T with presets := factoryTables.presets }
  | .hotkeys => { T with hotkeys := factoryTables.hotkeys }
  | .keymaps => { T with keymaps := factoryTables.keymaps }
  | .macros => { T with macros := factoryTables.macros }
  | .ballistics => { T with ballistics := factoryTables.ballistics }
  | .desk => { T with desk := factoryTables.desk }

/-- A table passes its own checks across records and those against the tables of lower id (R172). -/
def loadCrossOk (t : Table) (T : Tables) : Bool :=
  match t with
  | .authority => someFloorZero T
  | .heads => allHeads.all (headFits T)
  | .monitors => allMonitors.all fun m => !monitorOverlaps T m
  | _ => true

/-- The tables with a stored copy in place, or none when the copy fails (R172): it holds an image of the table's length and
a signature after it (R186), the signature of the image read equals the one read, and the image has no structural fault.
Settings outside their range are clamped. -/
def loadCopy (t : Table) (copy : StoreCopy) (T : Tables) : Option Tables :=
  let image := copy.take (imageBytes t)
  if copy.length = imageBytes t + 2 ∧ signature image = storedSignature t copy then
    let w := writtenTables t 0 (chunks (recordBytes t) (recordCount t) image) T
    if (malformedAt 0 w.2).isEmpty && loadCrossOk t w.1 then some w.1 else none
  else none

/-- A table that failed takes its factory defaults with no stored signature; where the factory HEADS do not fit the
CHANNELS already loaded, CHANNELS takes its factory defaults as well (R172). -/
def loadFactory (t : Table) (a : Loaded) : Loaded :=
  let T := withFactory t a.tables
  let sigs := put a.signatures (tableIndex t) none
  if t = .heads ∧ loadCrossOk .heads T = false then
    ⟨withFactory .channels T, put sigs (tableIndex .channels) none, true⟩
  else ⟨T, sigs, true⟩

/-- One table of the load (R172). -/
def loadTable (store : Vector (Option StoreCopy) 10) (a : Loaded) (t : Table) : Loaded :=
  match nth store (tableIndex t) with
  | none => loadFactory t a
  | some copy =>
    match loadCopy t copy a.tables with
    | none => loadFactory t a
    | some T => ⟨T, put a.signatures (tableIndex t) (some (storedSignature t copy)), a.failed⟩

/-- The ten tables loaded in ascending table id (R172). -/
def loadTables (store : Vector (Option StoreCopy) 10) : Loaded :=
  allTables.foldl (loadTable store) ⟨factoryTables, Vector.replicate 10 none, false⟩

/-- The store as a power-on finds it: a save that was interrupted leaves the table it was writing without a usable copy
(R172, log 5). -/
def State.storeAtPowerOn (s : State) : Vector (Option StoreCopy) 10 :=
  match s.mgmt.save with
  | none => s.store
  | some sv => put s.store (tableIndex sv.writing) none

/-! ## Power-on layouts (R122) -/

/-- One BLANK tile covering a monitor (R122). -/
def blankLayout (r : MonitorRec) : Layout := [{ rect := ⟨0, 0, r.width, r.height⟩, content := none }]

/-- Preset 0's part for a monitor, or the blank layout with the events of its failure (R122). -/
def powerOnLayout (s : State) (m : Monitor) : State :=
  let blank := s.setMonitorRun m { s.monitorRun m with
    active := blankLayout (nth s.tables.monitors m), activeOrigin := .blankDefault }
  match nth (nth s.tables.presets 0) m with
  | none => blank
  | some l =>
    if s.layoutOk m l then
      s.setMonitorRun m { s.monitorRun m with active := l, activeOrigin := .preset 0 }
    else
      latchRefusals (!geometryOk s.tables m l) (!mixOk s.tables s.mgmt.policy l) blank

/-- The frame start of a monitor that is live at power-on (R122). -/
def powerOnFrame (s : State) (m : Monitor) : State := if s.live m then fixPicture m s else s

/-- Every unit at its power-on value, with the tables and signatures of the load and the sinks sampled (R122). The output
log, the counter of free values and the queue of commands are the model's and are kept (log 10). -/
def powerOnBase (detect : Vector Bool 6) (a : Loaded) (s : State) : State :=
  { tables := a.tables
    console := .reset
    router := .reset
    attention := .idle
    focus := .reset a.tables.desk
    pointer := .reset
    display :=
      { heads := Vector.replicate 16 none
        monitors := Vector.ofFn fun m =>
          { connected := nth detect m, active := blankLayout (nth a.tables.monitors m),
            activeOrigin := .blankDefault, waiting := none, picture := none } }
    links := Vector.replicate 8 .reset
    player := none
    skipped := 0
    mgmt := .reset a.signatures
    store := s.storeAtPowerOn
    free := s.free
    sent := s.sent
    pending := s.pending }

/-- DESK_START, and STORE_FAULT where a table failed its load (R181). -/
def latchStart (failed : Bool) (s : State) : State :=
  let s1 := latch .deskStart s
  if failed then latch .storeFault s1 else s1

/-- A power-on reset (R21). -/
def powerOn (detect : Vector Bool 6) (s : State) : State :=
  let a := loadTables s.storeAtPowerOn
  deskNotice (allMonitors.foldl powerOnFrame
    (allMonitors.foldl powerOnLayout (latchStart a.failed (powerOnBase detect a s))))

/-- POWER_ON_RESET (R21). -/
def execPowerOnReset (detect : Vector Bool 6) (s : State) : Host.Outcome State Fault Refusal :=
  .next (powerOn detect s)

/-! ## The blocks at a desk restart (R179 step 3) -/

/-- The empty keyboard report and the all-buttons-up report to an ACTIVE channel (R22). -/
def sendEmptyReports (s : State) (c : Chan) : State :=
  sendButtons c (sendKeyboard c s)

/-- The key-down table, the pressed counts, the button table and the button states emptied (R43, R148). -/
def clearHeld (s : State) : State :=
  { s with
    router := .reset
    pointer := { s.pointer with
      fx := 0, fy := 0
      buttons := Vector.replicate 5 none
      held := Vector.replicate 8 noButtons } }

/-- The records of the Focus Controller at a restart (R83): as at power-on, but for the pulse of the lamps. -/
def restartFocus (s : State) : State :=
  s.setFocus { Focus.reset s.tables.desk with pulse := s.focus.pulse }

/-- Every pending layout dropped (R123). -/
def dropWaiting (s : State) : State :=
  { s with display := { s.display with
      monitors := mapAll (fun r => { r with waiting := none }) s.display.monitors } }

/-- The restart rules of the blocks up to the reports of the Link Controller and the console LEDs (R22, R43, R67, R83,
R99, R123, R148). R22 and R43 name no order: the empty reports leave in ascending channel number, and before the console LED
reports (DESIGN CHOICE, log 22). -/
def restartBlocks (s : State) : State :=
  let s1 := allChans.foldl (fun s c => discardQueue c s) s
  let s2 := dropWaiting (restartFocus (setPlayer none (setAttention .idle (clearHeld s1))))
  driveConsoleLeds (allChans.foldl sendEmptyReports s2)

/-- The owner of P after a restart that leaves captive no (R148): the answer says whether the pointer channel changed. The
pointer notice itself is taken when the restart is complete (R160). -/
def restartOwner (s : State) : Bool × State :=
  if s.captive then (false, s)
  else
    let changed := s.ownerOfPointer != s.pointer.channel
    let s1 := setPointerChannel s.ownerOfPointer s
    (changed, if s1.pointer.parked then s1 else deliverMotion changed 0 0 s1)

end Sys2Proof.Machine
end

