-- ==== Sys2Proof/Machine/Links.lean ====
section
/-! DEFINITION. The channel links: CONFIGURE (R4), SET_REMOTE_WAKE and SUSPEND (R5, R94), RESUME (R6, R95), WAKE_WINDOW_EXPIRY (R8, R9), LINK_LOSS (R10), LED_OUTPUT_REPORT (R19), GET_REPORT (R20). -/

namespace Sys2Proof.Machine

/-! ## Loss (R10) -/

/-- An entry that targets c becomes CONSUMED at a loss of c's link (R10). -/
def consumeEntryOf (c : Chan) (e : KeyEntry) : KeyEntry :=
  if e.target.isChannel c then { e with target := .consumed } else e

/-- The Key Router's part (R10): entries of c consumed, counts of c zero, no report. -/
def loseKeys (c : Chan) (s : State) : State :=
  (s.setEntries (s.router.entries.map (consumeEntryOf c))).setCounts c []

/-- A button entry that targets c becomes CONSUMED (R10, R145). -/
def consumeButtonOf (c : Chan) (t : Option ButtonTarget) : Option ButtonTarget :=
  match t with
  | none => none
  | some t => if t.isChannel c then some .consumed else some t

/-- The Pointer Engine's part (R10, R145). -/
def loseButtons (c : Chan) (s : State) : State :=
  s.setPointer { s.pointer with
    buttons := mapAll (consumeButtonOf c) s.pointer.buttons
    held := put s.pointer.held c noButtons
    lastAbs := put s.pointer.lastAbs c none }

/-- The Focus Controller's part (R10, R152): a glide toward c is cancelled. -/
def loseCandidate (c : Chan) (s : State) : State :=
  match s.focus.dwell with
  | none => s
  | some d => if d.candidate = c then cancelDwell s else s

/-- The console LEDs when the focus channel's record is set all off (R10, R27). -/
def ledsIfFocus (c : Chan) (s : State) : State :=
  if s.focus.channel = some c then driveConsoleLeds s else s

/-- The alert-outstanding flag at a loss of the alert channel's link (R184). -/
def loseAlert (c : Chan) (s : State) : State :=
  if s.tables.desk.alertChannel = some c then
    s.setMgmt { s.mgmt with alertOutstanding := false }
  else s

/-- The link-reset effects of R10 for channel c, with LINK_DOWN. R10 gives its effects no order: an alert that LINK_DOWN or
MACRO_ABORTED sends leaves before the console LED reports (DESIGN CHOICE, log 13). -/
def loseLink (c : Chan) (s : State) : State :=
  let s1 := latch .linkDown (s.setLink c .reset)
  let s2 := playerLost c (loseButtons c (loseKeys c s1))
  loseAlert c ((ledsIfFocus c (loseCandidate c s2)).setSlot c none)

/-- LINK_LOSS (R10): from any state except DETACHED. -/
def execLinkLoss (c : Chan) (s : State) : Host.Outcome State Fault Refusal :=
  if (s.link c).state = .detached then .next s else .next (loseLink c s)

/-! ## Configuration (R4) -/

/-- A DETACHED link goes to ACTIVE with LINK_UP (R4), with the console LEDs (R27) and the alert rule (R184). -/
def bringUp (c : Chan) (s : State) : State :=
  alertOnActive c (latch .linkUp
    (ledsIfFocus c (s.setLink c { s.link c with
      state := .active, leds := 0, remoteWake := false, permission := false, tries := 0 })))

/-- CONFIGURE (R4): on a link that is configured, a loss followed at once by a configuration (for a SUSPENDED or WAKING
link DESIGN CHOICE, log 8). -/
def execConfigure (c : Chan) (s : State) : Host.Outcome State Fault Refusal :=
  if (s.link c).state = .detached then .next (bringUp c s) else .next (bringUp c (loseLink c s))

/-! ## Suspend and resume (R5, R6) -/

/-- SET_REMOTE_WAKE (R5): while the link is ACTIVE. -/
def execSetRemoteWake (c : Chan) (on : Bool) (s : State) : Host.Outcome State Fault Refusal :=
  if (s.link c).state = .active then .next (s.setLink c { s.link c with remoteWake := on })
  else .next s

/-- An ACTIVE link suspended (R5). -/
def suspendLink (c : Chan) (s : State) : State :=
  playerSuspended c (latch .suspended
    (s.setLink c { s.link c with state := .suspended, permission := (s.link c).remoteWake }))

/-- SUSPEND (R5): of an ACTIVE link; another link takes none (log 7). -/
def execSuspend (c : Chan) (s : State) : Host.Outcome State Fault Refusal :=
  if (s.link c).state = .active then .next (suspendLink c s) else .next s

/-- Steps 1 and 2 of R6, with the alert rule of R184 (log 13). -/
def wakeUp (c : Chan) (s : State) : State :=
  alertOnActive c (latch .resumed
    (s.setLink c { s.link c with state := .active, window := none, tries := 0, permission := false }))

/-- A SUSPENDED or WAKING link resumed (R6). -/
def resumeLink (c : Chan) (s : State) : State :=
  let s1 := playerResumed c (fullStateReports c (wakeUp c s))
  if s1.serves c then s1 else drainItems c s1

/-- RESUME (R6): of a SUSPENDED or WAKING link; on an ACTIVE link it changes nothing, and on a DETACHED link it cannot
arrive (log 7). -/
def execResume (c : Chan) (s : State) : Host.Outcome State Fault Refusal :=
  match (s.link c).state with
  | .suspended | .waking => .next (resumeLink c s)
  | .active | .detached => .next s

/-! ## The wake window (R8, R9) -/

/-- A failed wake (R9). -/
def failWake (c : Chan) (s : State) : State :=
  let s1 := s.setLink c { s.link c with state := .suspended, window := none, tries := 0 }
  playerWakeFailed c (requestCue .fail (latch .wakeFailed (discardQueue c s1)))

/-- WAKE_WINDOW_EXPIRY (R8): the window runs in WAKING only; elsewhere no expiry takes place (log 7). -/
def execWakeWindowExpiry (c : Chan) (s : State) : Host.Outcome State Fault Refusal :=
  if (s.link c).state = .waking then
    if (s.link c).tries < (s.chanRec c).wakeTries then
      .next (signalWake c ((s.link c).tries + 1) s)
    else .next (failWake c s)
  else .next s

/-! ## LED record and requests (R19, R20) -/

/-- LED_OUTPUT_REPORT (R19): while the link is ACTIVE; the report's bits above the five lamps are ignored. -/
def execLedOutputReport (c : Chan) (lamps : Byte) (s : State) :
    Host.Outcome State Fault Refusal :=
  let now := lamps.setWidth 5
  if (s.link c).state = .active ∧ (s.link c).leds ≠ now then
    .next (ledsIfFocus c (s.setLink c { s.link c with leds := now }))
  else .next s

/-- The answer to a request for the current report of an interface (R20). -/
def currentReport (c : Chan) (i : Interface) (s : State) : List Byte :=
  match i with
  | .keyboard => keyboardReportBytes (s.pressedSet c)
  | .absolutePointer =>
    let a := (nth s.pointer.lastAbs c).getD (0, 0)
    absoluteBytes (s.held c) a.1 a.2 0 0
  | .relativePointer => relativeBytes (s.held c) 0 0 0 0
  | .keyboardLeds => [(s.link c).leds.setWidth 8]
  | .management =>
    match nth s.mgmt.slots c with
    | none => emptyResponse
    | some r => responseBytes r

/-- GET_REPORT (R20): answered at once while the link is ACTIVE, from records, without changing them. -/
def execGetReport (c : Chan) (i : Interface) (s : State) : Host.Outcome State Fault Refusal :=
  .next (offer c i (currentReport c i s) s)

end Sys2Proof.Machine
end

