-- ==== Sys2Proof/Machine/Pointing.lean ====
section
/-! DEFINITION. The pointer port: POINTER_PORT_ATTACH (R124), POINTER_PORT_DETACH (R126), POINTER_REPORT (R125). The Focus Controller's own steps: DWELL_EXPIRY (R153), CUE_ELEMENT_END (R81), SLEEP_PULSE (R78). -/

namespace Sys2Proof.Machine

def State.setPtr (s : State) (p : PointerPort) : State :=
  { s with console := { s.console with ptr := p } }

/-- POINTER_PORT_ATTACH (R124). An attach occurs on an ABSENT port (log 7). -/
def execPointerPortAttach (relativePointer : Bool) (s : State) :
    Host.Outcome State Fault Refusal :=
  if s.console.ptr.state = .absent then
    .next (if relativePointer then s.setPtr ⟨.active, noButtons⟩
      else s.setPtr { s.console.ptr with state := .rejected })
  else .next s

/-- The device of an ACTIVE pointer port detached (R126): the detach sample in the form of the moment. -/
def detachPointer (s : State) : State :=
  let s1 := s.setPtr { s.console.ptr with state := .absent }
  let s2 := takeSample (detachSample s.console.ptr.last) s1
  s2.setPtr ⟨.absent, noButtons⟩

/-- POINTER_PORT_DETACH (R126). -/
def execPointerPortDetach (s : State) : Host.Outcome State Fault Refusal :=
  match s.console.ptr.state with
  | .absent => .next s
  | .rejected => .next (s.setPtr { s.console.ptr with state := .absent })
  | .active => .next (detachPointer s)

/-- POINTER_REPORT (R125): every report on an ACTIVE port yields a sample. -/
def execPointerReport (bytes : List Byte) (s : State) : Host.Outcome State Fault Refusal :=
  if s.console.ptr.state = .active then
    let s1 := s.setPtr { s.console.ptr with last := reportButtons bytes }
    .next (takeSample (sampleOf s.console.ptr.last bytes) s1)
  else .next s

/-- DWELL_EXPIRY (R153): the dwell timer runs while a dwell is pending; elsewhere no expiry takes place (log 7). -/
def execDwellExpiry (s : State) : Host.Outcome State Fault Refusal := .next (completeDwell s)

/-- The next element of a cue, or IDLE after the last (R80, R81). -/
def nextElement (p : Playing) : Option Playing :=
  if p.element + 1 < (cuePattern p.cue).length then some { p with element := p.element + 1 }
  else none

/-- CUE_ELEMENT_END (R81): in IDLE nothing sounds and nothing ends (log 7). -/
def execCueElementEnd (s : State) : Host.Outcome State Fault Refusal :=
  .next (s.setFocus { s.focus with cue := s.focus.cue.bind nextElement })

/-- SLEEP_PULSE (R78): the pulse of every SLEEP lamp toggles. -/
def execSleepPulse (s : State) : Host.Outcome State Fault Refusal :=
  .next (s.setFocus { s.focus with pulse := !s.focus.pulse })

end Sys2Proof.Machine
end

