-- ==== Sys2Proof/Machine/Screens.lean ====
section
/-! DEFINITION. Heads and monitors: HEAD_SIGNAL_CHANGE (R101, R102), HOT_PLUG_CHANGE (R105), FRAME_START (R106, R117). -/

namespace Sys2Proof.Machine

def State.setHead (s : State) (h : Head) (d : Option (Nat × Nat)) : State :=
  { s with display := { s.display with heads := put s.display.heads h d } }

/-- A detected size beyond 7680 by 4320 is taken as NO_SIGNAL (R101). -/
def acceptedSignal (d : Option (Nat × Nat)) : Option (Nat × Nat) :=
  match d with
  | none => none
  | some a => if a.1 ≤ 7680 ∧ a.2 ≤ 4320 then some a else none

/-- A LOCKED head's detected size differs from its configured size (R102). -/
def State.mismatched (s : State) (h : Head) : Bool :=
  match nth s.display.heads h with
  | none => false
  | some d => d != ((nth s.tables.heads h).width, (nth s.tables.heads h).height)

/-- The head's runtime record takes a new signal: HEAD_CHANGED, and then FORMAT_MISMATCH where the sizes differ (R101, R102; the
order of the two DESIGN CHOICE, log 13). -/
def changeSignal (h : Head) (d : Option (Nat × Nat)) (s : State) : State :=
  let s1 := latch .headChanged (s.setHead h d)
  if s1.mismatched h then latch .formatMismatch s1 else s1

/-- HEAD_SIGNAL_CHANGE (R101): a signal that leaves the record as it is is none of its three changes. -/
def execHeadSignalChange (h : Head) (detected : Option (Nat × Nat)) (s : State) :
    Host.Outcome State Fault Refusal :=
  if acceptedSignal detected = nth s.display.heads h then .next s
  else .next (changeSignal h (acceptedSignal detected) s)

/-- A change of sink state (R105): MONITOR_CHANGED, and a change of liveness of an enabled monitor. -/
def changeSink (m : Monitor) (connected : Bool) (s : State) : State :=
  let s1 := latch .monitorChanged
    (s.setMonitorRun m { s.monitorRun m with connected := connected })
  if (nth s.tables.monitors m).enabled then
    if connected then becomeLive m s1 else ceaseLive m s1
  else s1

/-- HOT_PLUG_CHANGE (R105). -/
def execHotPlugChange (m : Monitor) (asserted : Bool) (s : State) :
    Host.Outcome State Fault Refusal :=
  if (s.monitorRun m).connected = asserted then .next s else .next (changeSink m asserted s)

/-- FRAME_START (R106, R117): a monitor that is not live raises no frame start (log 7). -/
def execFrameStart (m : Monitor) (s : State) : Host.Outcome State Fault Refusal :=
  if s.live m then .next (beginFrame m s) else .next s

end Sys2Proof.Machine
end

