-- ==== Sys2Proof/Machine/Management.lean ====
section
/-! DEFINITION. Management requests: the checks of R162 and R163, the sixteen commands (R165 to R183), UNKNOWN_COMMAND, and the store's reports (R171). -/

namespace Sys2Proof.Machine

/-! ## Checks (R162, R163) -/

/-- The level a command requires (R163); IDENTIFY is taken at any level. -/
def requiredLevel (cmd : Command) (f : Frame) : Nat :=
  match cmd with
  | .identify => 255
  | .writeTable =>
    match tableOfId? f.tableId.toNat with
    | some .authority => 0
    | some .presets | some .ballistics | some .desk => 2
    | _ => 1
  | .setPolicy | .lockTable | .deskRestart => 0
  | .saveStore | .select | .playMacro | .clearEvents => 1
  | .readTable | .signTable | .recallPreset | .setLayout | .wake | .readState | .readEvents => 2

/-- The effective authority: the larger of the requested level and the sender's floor (R163). -/
def State.effective (s : State) (c : Chan) (f : Frame) : Nat :=
  max f.level.toNat (nth s.tables.authority c).val

/-- The adjusted flag: the floor raised the level; no for IDENTIFY (R163). -/
def State.adjustedFlag (s : State) (cmd : Command) (c : Chan) (f : Frame) : Bool :=
  cmd != .identify && s.effective c f != f.level.toNat

/-- The commands answered BUSY during a save (check 4 of R162). -/
def Command.heldBySave : Command → Bool
  | .writeTable | .lockTable | .setPolicy | .saveStore | .deskRestart => true
  | _ => false

/-- The table a frame names, for a command that names one (9.1). -/
def Command.tableOf (cmd : Command) (f : Frame) : Option Table :=
  if cmd.namesTable then tableOfId? f.tableId.toNat else none

/-- The confirm-class requests (R162). -/
def Command.confirmKind (cmd : Command) (f : Frame) : Option ConfirmKind :=
  match cmd with
  | .setPolicy => some .setPolicy
  | .writeTable => if tableOfId? f.tableId.toNat = some .authority then some .authorityWrite else none
  | _ => none

/-- Check 2 of R162. -/
def levelAndTableOk (cmd : Command) (f : Frame) : Bool :=
  f.level.toNat ≤ 3 && (!cmd.namesTable || (tableOfId? f.tableId.toNat).isSome)

/-- Check 6 of R162 fails. -/
def State.lockedFor (s : State) (cmd : Command) (f : Frame) : Bool :=
  match cmd with
  | .writeTable =>
    match tableOfId? f.tableId.toNat with
    | none => false
    | some t => s.locked t
  | .setPolicy => s.mgmt.policyWritten
  | _ => false

/-- Checks 2 to 6 of R162 in order: the status of the first that fails. -/
def firstFailure (cmd : Command) (c : Chan) (f : Frame) (s : State) : Option Status :=
  if levelAndTableOk cmd f = false then some .invalid
  else if requiredLevel cmd f < s.effective c f then some .denied
  else if s.mgmt.save.isSome ∧ cmd.heldBySave = true then some .busy
  else if s.mgmt.confirm.isSome ∧ (cmd.confirmKind f).isSome then some .busy
  else if s.lockedFor cmd f = true then some .locked
  else none

/-- A request taken whole (R161): nothing reaches the Management Unit unless the sender's link is ACTIVE; the first check
that fails gives the status; otherwise the work is done, and the response composed, kept and sent. -/
def request (cmd : Command) (c : Chan) (f : Frame) (work : State → Reply × State) (s : State) :
    State :=
  if (s.link c).state = .active then
    match firstFailure cmd c f s with
    | some st => respond c f.tag (s.adjustedFlag cmd c f) (.bare st) s
    | none =>
      let r := work s
      respond c f.tag (s.adjustedFlag cmd c f) r.1 r.2
  else s

/-- Work behind the frame's part of check 7 (R162, R185). -/
def whenOk (cmd : Command) (f : Frame) (work : State → Reply × State) (s : State) :
    Reply × State :=
  if frameOk cmd f then work s else (.bare .invalid, s)

/-- The first payload byte as a number. -/
def payloadByte (f : Frame) (i : Nat) : Nat := byteAt f.payload i

/-! ## Reading, writing, locking, signing (R165 to R170) -/

/-- The lock states of IDENTIFY (11.3): bit t - 1 for table t. -/
def lockBits (locks : Vector Bool 10) : Nat :=
  locks.toList.foldr (fun b n => 2 * n + (if b then 1 else 0)) 0

/-- The payload of IDENTIFY (R165, 11.3). -/
def identityPayload (c : Chan) (s : State) : List Byte :=
  word16 8616 ++ [byteOf (Config.revisionIndex.val + 1)]
    ++ [8, 16, 6, 4, 16, 32, 4, 64, 8, 64, 32, 240]
    ++ word16 (lockBits s.mgmt.locks)
    ++ [flagByte s.mgmt.policyWritten, byteOf (nth s.tables.authority c).val]

def workIdentify (c : Chan) (s : State) : Reply × State := (.of .ok (identityPayload c s), s)

/-- The images of the records first to first + count - 1 (R166). -/
def recordRange (t : Table) (f : Frame) (T : Tables) : List Byte :=
  (((recordImages t T).drop (f.first.toNat - firstIndex t)).take f.count.toNat).flatten

/-- READ_TABLE (R166). -/
def workReadTable (t : Table) (f : Frame) (s : State) : Reply × State :=
  if rangeOk t f && f.count.toNat * recordBytes t ≤ 480 then
    (.of .ok (recordRange t f s.tables), s)
  else (.bare .invalid, s)

/-- WRITE_TABLE of a table other than AUTHORITY (R167). -/
def workWriteTable (t : Table) (f : Frame) (s : State) : Reply × State :=
  match checkWrite t f s with
  | .refused i => (.invalidAt i, s)
  | .applies T adjusted => (.bare (if adjusted then .okAdjusted else .ok), applyWrite t T s)

def setLock (t : Table) (s : State) : State :=
  s.setMgmt { s.mgmt with locks := put s.mgmt.locks (tableIndex t) true }

/-- LOCK_TABLE (R169). -/
def workLockTable (t : Table) (s : State) : Reply × State :=
  (.of .ok [flagByte (s.locked t)], setLock t s)

/-- The payload of SIGN_TABLE (R170, 11.3). -/
def signPayload (t : Table) (s : State) : List Byte :=
  word16 (tableSignature t s.tables).toNat ++
    (match nth s.mgmt.signatures (tableIndex t) with
     | none => 0 :: word16 0
     | some sig => 1 :: word16 sig.toNat)

def workSignTable (t : Table) (s : State) : Reply × State := (.of .ok (signPayload t s), s)

/-! ## The store (R171) -/

def setSave (sv : Option Save) (s : State) : State := s.setMgmt { s.mgmt with save := sv }

/-- SAVE_STORE (R171). -/
def workSaveStore (c : Chan) (f : Frame) (s : State) : Reply × State :=
  (⟨.working, [], some .save⟩, setSave (some ⟨c, f.tag, s.tables, .channels⟩) s)

/-- The table after a given one in ascending id. -/
def tableAfter (t : Table) : Option Table := allTables[(tableIndex t).val + 1]?

/-- The store holds the snapshot's image and signature of a table, and the stored signature follows (R171). -/
def storeTable (sv : Save) (s : State) : State :=
  let i := tableIndex sv.writing
  let s1 := s.setMgmt { s.mgmt with
    signatures := put s.mgmt.signatures i (some (tableSignature sv.writing sv.snapshot)) }
  { s1 with store := put s1.store i (some (storeImage sv.writing sv.snapshot)) }

/-- A table's write completes (R171). -/
def tableWritten (sv : Save) (s : State) : State :=
  let s1 := storeTable sv s
  match tableAfter sv.writing with
  | some t => setSave (some { sv with writing := t }) s1
  | none => deferredOutcome .save sv.chan (.bare .ok) (setSave none s1)

/-- STORE_TABLE_WRITTEN (R171): reported during a save only (log 7). -/
def execStoreTableWritten (s : State) : Host.Outcome State Fault Refusal :=
  match s.mgmt.save with
  | none => .next s
  | some sv => .next (tableWritten sv s)

/-- The store holds a free value for the table whose write failed: R171 does not say what it holds (log 4). -/
def storeUnknown (t : Table) (s : State) : State :=
  { s with store := put s.store (tableIndex t) (Config.storeAfterFailure s.free), free := s.free + 1 }

/-- The store interface reports a failure (R171). -/
def writeFailed (sv : Save) (s : State) : State :=
  deferredOutcome .save sv.chan (.bare .storeFault)
    (latch .storeFault (setSave none (storeUnknown sv.writing s)))

/-- STORE_WRITE_FAILED (R171): reported during a save only (log 7). -/
def execStoreWriteFailed (s : State) : Host.Outcome State Fault Refusal :=
  match s.mgmt.save with
  | none => .next s
  | some sv => .next (writeFailed sv s)

/-! ## Runtime commands (R177) -/

/-- The outcome names of the response payloads, by number (11.3). -/
inductive OutcomeName where
  | changed
  | unchanged
  | accepted
  | started
  | inProgress
  | awake
  | waiting
  | refused
  | denied
  | absent
  | aborted
  deriving DecidableEq, Repr

/-- 11.3. -/
def outcomeNumber : OutcomeName → Byte
  | .changed => 1
  | .unchanged => 2
  | .accepted => 3
  | .started => 4
  | .inProgress => 5
  | .awake => 6
  | .waiting => 7
  | .refused => 8
  | .denied => 9
  | .absent => 10
  | .aborted => 11

/-- OK with the outcome's name (R177). -/
def okNamed (n : OutcomeName) : Reply := .of .ok [outcomeNumber n]

/-- INVALID with a refusal's name (R177). -/
def invalidNamed (n : OutcomeName) : Reply := .of .invalid [outcomeNumber n]

/-- SELECT (R177). -/
def workSelect (f : Frame) (s : State) : Reply × State :=
  match oneBased? 8 (payloadByte f 0) with
  | none => (.bare .invalid, s)
  | some n =>
    match requestFocus .management n s with
    | (.changed, s1) => (okNamed .changed, s1)
    | (.unchanged, s1) => (okNamed .unchanged, s1)
    | (_, s1) => (invalidNamed .refused, s1)

/-- The status of a recall or a SET_LAYOUT (R177). -/
def placeReply (o : PlaceOutcome) : Reply :=
  match o with
  | .accepted => okNamed .accepted
  | .refused => invalidNamed .refused

/-- RECALL_PRESET (R177). -/
def workRecallPreset (f : Frame) (s : State) : Reply × State :=
  match finOf? 16 (payloadByte f 0) with
  | none => (.bare .invalid, s)
  | some p =>
    let r := recallPreset p s
    (placeReply r.1, r.2)

/-- SET_LAYOUT (R115, R177). -/
def workSetLayout (f : Frame) (s : State) : Reply × State :=
  match oneBased? 6 (payloadByte f 0), parseLayout (f.payload.drop 1) with
  | some m, some l =>
    let r := setLayoutOn m l s
    (placeReply r.1, r.2)
  | _, _ => (.bare .invalid, s)

/-- The reply to a WAKE (R177). -/
def wakeReply (o : WakeOutcome) : Reply :=
  match o with
  | .started => okNamed .started
  | .inProgress => okNamed .inProgress
  | .awake => okNamed .awake
  | .denied => invalidNamed .denied
  | .absent => invalidNamed .absent

/-- WAKE (R177). -/
def workWake (f : Frame) (s : State) : Reply × State :=
  match oneBased? 8 (payloadByte f 0) with
  | none => (.bare .invalid, s)
  | some n =>
    let r := wakeRequest n s
    (wakeReply r.1, r.2)

/-- The reply to a PLAY_MACRO (R177). -/
def startReply (o : StartOutcome) : Reply :=
  match o with
  | .started => okNamed .started
  | .waiting => okNamed .waiting
  | .aborted => invalidNamed .aborted
  | .busy => .bare .busy

/-- PLAY_MACRO (R177). -/
def workPlayMacro (f : Frame) (s : State) : Reply × State :=
  match oneBased? 8 (payloadByte f 0), oneBased? 8 (payloadByte f 1) with
  | some m, some n =>
    let r := startMacro m n s
    (startReply r.1, r.2)
  | _, _ => (.bare .invalid, s)

/-! ## READ_STATE (R178) -/

def attentionNumber : Attention → Byte
  | .idle => 0
  | .tapDown _ _ => 1
  | .tapUp _ _ _ => 2
  | .armed _ => 3

def linkNumber : LinkState → Byte
  | .detached => 0
  | .active => 1
  | .suspended => 2
  | .waking => 3

/-- The preset last recalled on a monitor, 255 for NONE (R116). -/
def originByte : Origin → Byte
  | .preset p => byteOf p.val
  | .setLayout | .blankDefault => 255

/-- The player's 19 bytes; absent fields are 0 (11.3). The count of skipped steps is shown in IDLE as well, until the next
start (R90, log 16). -/
def playerBytes (p : Option Player) (skipped : Nat) : List Byte :=
  match p with
  | none => List.replicate 5 0 ++ [byteOf skipped] ++ List.replicate 13 0
  | some p =>
    [if p.playing then 2 else 1, byteOf (p.number.val + 1), byteOf (p.chan.val + 1), byteOf p.index,
     byteOf (p.tapHalf.getD 0), byteOf skipped, modifierByte p.pressed]
      ++ padTo 12 (((p.pressed.filter fun k => !isModifier k).take 12).map byteOf)

/-- The confirm record's 3 bytes (11.3). -/
def confirmBytes (cf : Option Confirm) : List Byte :=
  match cf with
  | none => [0, 0, 0]
  | some cf => [1, byteOf (cf.chan.val + 1), match cf.kind with
    | .authorityWrite => 1
    | .setPolicy => 2]

/-- The 62 bytes of READ_STATE (R178, 11.3). -/
def statePayload (s : State) : List Byte :=
  [byteOf (numberOrZero s.focus.channel),
   byteOf ((if s.focus.pinned then 1 else 0) + (if s.focus.glideEnabled then 2 else 0)
     + (if s.captive then 4 else 0) + (if s.pointer.parked then 8 else 0)),
   byteOf (numberOrZero (s.focus.dwell.map (·.candidate))),
   attentionNumber s.attention]
    ++ allChans.map (fun c => linkNumber (s.link c).state)
    ++ allChans.map (fun c => byteOf (s.link c).queue.length)
    ++ allChans.map (fun c => byteOf (s.link c).reserved)
    ++ word16 s.pointer.x ++ word16 s.pointer.y ++ [byteOf (numberOrZero s.pointer.channel)]
    ++ allMonitors.map (fun m => originByte (s.monitorRun m).activeOrigin)
    ++ playerBytes s.player s.skipped ++ confirmBytes s.mgmt.confirm ++ [flagByte s.mgmt.save.isSome]

def workReadState (s : State) : Reply × State := (.of .ok (statePayload s), s)

/-! ## Events (R183) -/

/-- READ_EVENTS from channel c (R183): the latched set, then its removal but for the retain set, and for the alert channel
the flag cleared. -/
def workReadEvents (c : Chan) (s : State) : Reply × State :=
  (.of .ok (eventSetBytes s.mgmt.latch),
   s.setMgmt { s.mgmt with
     latch := s.mgmt.latch &&& s.tables.desk.retainSet
     alertOutstanding :=
       if s.tables.desk.alertChannel = some c then false else s.mgmt.alertOutstanding })

/-- CLEAR_EVENTS (R183): an event number outside 1 to 23 refuses the request. -/
def workClearEvents (f : Frame) (s : State) : Reply × State :=
  match eventSetAt? f.payload 0 with
  | none => (.bare .invalid, s)
  | some named =>
    let s1 := s.setMgmt { s.mgmt with latch := s.mgmt.latch &&& ~~~named }
    (.of .ok (eventSetBytes s1.mgmt.latch), s1)

/-! ## DESK_RESTART (R179, R160) -/

/-- Step 1 of R179. -/
def declineAny (s : State) : State :=
  match s.mgmt.confirm with
  | none => s
  | some cf => declinePending cf s

/-- Step 2 of R179. -/
def restartLatch (s : State) : State :=
  latch .deskStart (s.setMgmt { s.mgmt with latch := 0, alertOutstanding := false })

/-- Steps 1 to 3 of R179; the answer says whether a pointer notice is to follow (R148, R160). -/
def restart (s : State) : Bool × State := restartOwner (restartBlocks (restartLatch (declineAny s)))

/-- The pointer notice of a restart, taken after the response (R160). -/
def restartNotice (due : Bool) (s : State) : State :=
  if due then pointerNotice s.pointer.channel s else s

/-- A DESK_RESTART that passes every check (R179, R160). -/
def restartAndAnswer (c : Chan) (f : Frame) (s : State) : State :=
  let r := restart s
  restartNotice r.1 (respond c f.tag (s.adjustedFlag .deskRestart c f) (.bare .ok) r.2)

/-! ## The commands -/

/-- A request whose command names a table: its work with that table. -/
def tableRequest (cmd : Command) (c : Chan) (f : Frame)
    (work : Table → State → Reply × State) (s : State) : State :=
  request cmd c f (whenOk cmd f fun s =>
    match tableOfId? f.tableId.toNat with
    | none => (.bare .invalid, s)
    | some t => work t s) s

def takeIdentify (c : Chan) (f : Frame) (s : State) : State :=
  request .identify c f (whenOk .identify f (workIdentify c)) s

def takeReadTable (c : Chan) (f : Frame) (s : State) : State :=
  tableRequest .readTable c f (fun t => workReadTable t f) s

/-- WRITE_TABLE: an AUTHORITY write is taken into the confirm window, and check 7 is made at its confirmation (R162). -/
def takeWriteTable (c : Chan) (f : Frame) (s : State) : State :=
  request .writeTable c f (fun s =>
    match tableOfId? f.tableId.toNat with
    | none => (.bare .invalid, s)
    | some .authority => takeConfirm .authorityWrite c f s
    | some t => workWriteTable t f s) s

def takeLockTable (c : Chan) (f : Frame) (s : State) : State :=
  tableRequest .lockTable c f workLockTable s

def takeSignTable (c : Chan) (f : Frame) (s : State) : State :=
  tableRequest .signTable c f workSignTable s

def takeSaveStore (c : Chan) (f : Frame) (s : State) : State :=
  request .saveStore c f (whenOk .saveStore f (workSaveStore c f)) s

/-- SET_POLICY is confirm class: check 7 is made at its confirmation (R162, R173). -/
def takeSetPolicy (c : Chan) (f : Frame) (s : State) : State :=
  request .setPolicy c f (takeConfirm .setPolicy c f) s

def takeSelect (c : Chan) (f : Frame) (s : State) : State :=
  request .select c f (whenOk .select f (workSelect f)) s

def takeRecallPreset (c : Chan) (f : Frame) (s : State) : State :=
  request .recallPreset c f (whenOk .recallPreset f (workRecallPreset f)) s

def takeSetLayout (c : Chan) (f : Frame) (s : State) : State :=
  request .setLayout c f (whenOk .setLayout f (workSetLayout f)) s

def takeWake (c : Chan) (f : Frame) (s : State) : State :=
  request .wake c f (whenOk .wake f (workWake f)) s

def takePlayMacro (c : Chan) (f : Frame) (s : State) : State :=
  request .playMacro c f (whenOk .playMacro f (workPlayMacro f)) s

def takeReadState (c : Chan) (f : Frame) (s : State) : State :=
  request .readState c f (whenOk .readState f workReadState) s

def takeReadEvents (c : Chan) (f : Frame) (s : State) : State :=
  request .readEvents c f (whenOk .readEvents f (workReadEvents c)) s

def takeClearEvents (c : Chan) (f : Frame) (s : State) : State :=
  request .clearEvents c f (whenOk .clearEvents f (workClearEvents f)) s

/-- DESK_RESTART (R179): a request that fails a check is answered as any other. -/
def takeDeskRestart (c : Chan) (f : Frame) (s : State) : State :=
  if (s.link c).state = .active ∧ firstFailure .deskRestart c f s = none ∧
      frameOk .deskRestart f = true then
    restartAndAnswer c f s
  else request .deskRestart c f (fun s => (.bare .invalid, s)) s

/-- A frame handed to the command it names. -/
def takeCommand (cmd : Command) (c : Chan) (f : Frame) (s : State) : State :=
  match cmd with
  | .identify => takeIdentify c f s
  | .readTable => takeReadTable c f s
  | .writeTable => takeWriteTable c f s
  | .lockTable => takeLockTable c f s
  | .signTable => takeSignTable c f s
  | .saveStore => takeSaveStore c f s
  | .setPolicy => takeSetPolicy c f s
  | .select => takeSelect c f s
  | .recallPreset => takeRecallPreset c f s
  | .setLayout => takeSetLayout c f s
  | .wake => takeWake c f s
  | .playMacro => takePlayMacro c f s
  | .readState => takeReadState c f s
  | .readEvents => takeReadEvents c f s
  | .clearEvents => takeClearEvents c f s
  | .deskRestart => takeDeskRestart c f s

/-- A report on the management interface as it arrived: check 0 and check 1 of R162 (R185), then the command it names. The
tag of a malformed report is its byte 0, or 0 for an empty one; its adjusted flag is no (log 12). -/
def takeReport (c : Chan) (report : List Byte) (s : State) : State :=
  if (s.link c).state = .active then
    if reportWellFormed report = false then
      respond c (report.getD 0 0) false (.bare .invalid) s
    else match commandOf? (byteAt report 1) with
      | none => respond c (report.getD 0 0) false (.bare .unknownCommand) s
      | some cmd => takeCommand cmd c (frameOf report) s
  else s

/-- UNKNOWN_COMMAND (R162): a malformed frame or one that names no command. A report that does name a command is no such
row's; given here, the part does with it what it does with any report (log 24). -/
def execUnknownCommand (c : Chan) (report : List Byte) (s : State) :
    Host.Outcome State Fault Refusal := .next (takeReport c report s)

/-- IDENTIFY (R165). -/
def execIdentify (c : Chan) (f : Frame) (s : State) : Host.Outcome State Fault Refusal :=
  .next (takeIdentify c f s)

/-- READ_TABLE (R166). -/
def execReadTable (c : Chan) (f : Frame) (s : State) : Host.Outcome State Fault Refusal :=
  .next (takeReadTable c f s)

/-- WRITE_TABLE (R167). -/
def execWriteTable (c : Chan) (f : Frame) (s : State) : Host.Outcome State Fault Refusal :=
  .next (takeWriteTable c f s)

/-- LOCK_TABLE (R169). -/
def execLockTable (c : Chan) (f : Frame) (s : State) : Host.Outcome State Fault Refusal :=
  .next (takeLockTable c f s)

/-- SIGN_TABLE (R170). -/
def execSignTable (c : Chan) (f : Frame) (s : State) : Host.Outcome State Fault Refusal :=
  .next (takeSignTable c f s)

/-- SAVE_STORE (R171). -/
def execSaveStore (c : Chan) (f : Frame) (s : State) : Host.Outcome State Fault Refusal :=
  .next (takeSaveStore c f s)

/-- SET_POLICY (R173). -/
def execSetPolicy (c : Chan) (f : Frame) (s : State) : Host.Outcome State Fault Refusal :=
  .next (takeSetPolicy c f s)

/-- SELECT (R177). -/
def execSelect (c : Chan) (f : Frame) (s : State) : Host.Outcome State Fault Refusal :=
  .next (takeSelect c f s)

/-- RECALL_PRESET (R177). -/
def execRecallPreset (c : Chan) (f : Frame) (s : State) : Host.Outcome State Fault Refusal :=
  .next (takeRecallPreset c f s)

/-- SET_LAYOUT (R115, R177). -/
def execSetLayout (c : Chan) (f : Frame) (s : State) : Host.Outcome State Fault Refusal :=
  .next (takeSetLayout c f s)

/-- WAKE (R177). -/
def execWake (c : Chan) (f : Frame) (s : State) : Host.Outcome State Fault Refusal :=
  .next (takeWake c f s)

/-- PLAY_MACRO (R177). -/
def execPlayMacro (c : Chan) (f : Frame) (s : State) : Host.Outcome State Fault Refusal :=
  .next (takePlayMacro c f s)

/-- READ_STATE (R178). -/
def execReadState (c : Chan) (f : Frame) (s : State) : Host.Outcome State Fault Refusal :=
  .next (takeReadState c f s)

/-- READ_EVENTS (R183). -/
def execReadEvents (c : Chan) (f : Frame) (s : State) : Host.Outcome State Fault Refusal :=
  .next (takeReadEvents c f s)

/-- CLEAR_EVENTS (R183). -/
def execClearEvents (c : Chan) (f : Frame) (s : State) : Host.Outcome State Fault Refusal :=
  .next (takeClearEvents c f s)

/-- DESK_RESTART (R179). -/
def execDeskRestart (c : Chan) (f : Frame) (s : State) : Host.Outcome State Fault Refusal :=
  .next (takeDeskRestart c f s)

end Sys2Proof.Machine
end

