-- ==== Sys2Proof/Machine/Dispatch.lean ====
section
/-! DEFINITION. One arm per command (spec/opcode_table.json), each one call of the command's meaning. -/

namespace Sys2Proof.Machine

/-- The effect of a command on everything but the queue. -/
def exec (i : Instr) (s : State) : Host.Outcome State Fault Refusal :=
  match i with
  | .powerOnReset detect => Sys2Proof.Machine.execPowerOnReset detect s
  | .configure c => Sys2Proof.Machine.execConfigure c s
  | .setRemoteWake c on => Sys2Proof.Machine.execSetRemoteWake c on s
  | .suspend c => Sys2Proof.Machine.execSuspend c s
  | .resume c => Sys2Proof.Machine.execResume c s
  | .wakeWindowExpiry c => Sys2Proof.Machine.execWakeWindowExpiry c s
  | .linkLoss c => Sys2Proof.Machine.execLinkLoss c s
  | .ledOutputReport c lamps => Sys2Proof.Machine.execLedOutputReport c lamps s
  | .getReport c asked => Sys2Proof.Machine.execGetReport c asked s
  | .keyboardPortAttach p bootKeyboard => Sys2Proof.Machine.execKeyboardPortAttach p bootKeyboard s
  | .keyboardPortDetach p => Sys2Proof.Machine.execKeyboardPortDetach p s
  | .keyboardReport p r => Sys2Proof.Machine.execKeyboardReport p r s
  | .tapWindowExpiry => Sys2Proof.Machine.execTapWindowExpiry s
  | .armWindowExpiry => Sys2Proof.Machine.execArmWindowExpiry s
  | .cueElementEnd => Sys2Proof.Machine.execCueElementEnd s
  | .sleepPulse => Sys2Proof.Machine.execSleepPulse s
  | .macroStepExpiry => Sys2Proof.Machine.execMacroStepExpiry s
  | .pointerPortAttach relativePointer => Sys2Proof.Machine.execPointerPortAttach relativePointer s
  | .pointerPortDetach => Sys2Proof.Machine.execPointerPortDetach s
  | .pointerReport bytes => Sys2Proof.Machine.execPointerReport bytes s
  | .dwellExpiry => Sys2Proof.Machine.execDwellExpiry s
  | .headSignalChange h detected => Sys2Proof.Machine.execHeadSignalChange h detected s
  | .hotPlugChange m asserted => Sys2Proof.Machine.execHotPlugChange m asserted s
  | .frameStart m => Sys2Proof.Machine.execFrameStart m s
  | .confirmWindowExpiry => Sys2Proof.Machine.execConfirmWindowExpiry s
  | .storeTableWritten => Sys2Proof.Machine.execStoreTableWritten s
  | .storeWriteFailed => Sys2Proof.Machine.execStoreWriteFailed s
  | .unknownCommand c report => Sys2Proof.Machine.execUnknownCommand c report s
  | .identify c f => Sys2Proof.Machine.execIdentify c f s
  | .readTable c f => Sys2Proof.Machine.execReadTable c f s
  | .writeTable c f => Sys2Proof.Machine.execWriteTable c f s
  | .lockTable c f => Sys2Proof.Machine.execLockTable c f s
  | .signTable c f => Sys2Proof.Machine.execSignTable c f s
  | .saveStore c f => Sys2Proof.Machine.execSaveStore c f s
  | .setPolicy c f => Sys2Proof.Machine.execSetPolicy c f s
  | .select c f => Sys2Proof.Machine.execSelect c f s
  | .recallPreset c f => Sys2Proof.Machine.execRecallPreset c f s
  | .setLayout c f => Sys2Proof.Machine.execSetLayout c f s
  | .wake c f => Sys2Proof.Machine.execWake c f s
  | .playMacro c f => Sys2Proof.Machine.execPlayMacro c f s
  | .readState c f => Sys2Proof.Machine.execReadState c f s
  | .readEvents c f => Sys2Proof.Machine.execReadEvents c f s
  | .clearEvents c f => Sys2Proof.Machine.execClearEvents c f s
  | .deskRestart c f => Sys2Proof.Machine.execDeskRestart c f s

end Sys2Proof.Machine
end

