-- ==== Sys2Proof/Safety.lean ====
section
/-! DEFINITION. The terms in which statements about the part are made: what a step sent, what holds of every state of a run, and which records lie in their ranges. -/

namespace Sys2Proof.Machine

/-! ## What a step sent -/

/-- The part of the output log that `t` has beyond `s`. -/
def newSent (s t : State) : List Sent := t.sent.drop s.sent.length

/-- The reports among some outputs that went to channel c, oldest first. -/
def reportsTo (c : Chan) (l : List Sent) : List (Interface × List Byte) :=
  l.filterMap fun o => match o with
    | .report d i bytes => if d = c then some (i, bytes) else none
    | _ => none

/-- The same without the management interface: what channel c's computer sees of keyboard and pointer. -/
def inputReports (c : Chan) (l : List Sent) : List (Interface × List Byte) :=
  (reportsTo c l).filter fun r => r.1 != .management

/-- The LED output reports that left for the console keyboards (R27). -/
def ledReports (s : State) : List Sent :=
  (if s.console.key.state = .active then [Sent.consoleLeds .key s.consoleLamps] else [])
    ++ (if s.console.aux.state = .active then [Sent.consoleLeds .aux s.consoleLamps] else [])

/-- The LED output reports among some outputs. -/
def ledReportsIn (l : List Sent) : List Sent :=
  l.filter fun o => match o with
    | .consoleLeds _ _ => true
    | _ => false

/-! ## Requests -/

/-- The command of the table that carries a frame of a management command. -/
def Command.instr (cmd : Command) (c : Chan) (f : Frame) : Instr :=
  match cmd with
  | .identify => .identify c f
  | .readTable => .readTable c f
  | .writeTable => .writeTable c f
  | .lockTable => .lockTable c f
  | .signTable => .signTable c f
  | .saveStore => .saveStore c f
  | .setPolicy => .setPolicy c f
  | .select => .select c f
  | .recallPreset => .recallPreset c f
  | .setLayout => .setLayout c f
  | .wake => .wake c f
  | .playMacro => .playMacro c f
  | .readState => .readState c f
  | .readEvents => .readEvents c f
  | .clearEvents => .clearEvents c f
  | .deskRestart => .deskRestart c f

/-- A request that reaches the Management Unit and passes checks 2 to 6 of R162, with a frame well formed for its command. -/
def Accepted (cmd : Command) (c : Chan) (f : Frame) (s : State) : Prop :=
  (s.link c).state = .active ∧ firstFailure cmd c f s = none ∧ frameOk cmd f = true

/-- The answer to a request of channel c: the response of R161 composed in state `u`, after the request's work. -/
def answer (cmd : Command) (c : Chan) (f : Frame) (r : Reply) (s u : State) : State :=
  respond c f.tag (s.adjustedFlag cmd c f) r u

/-! ## What holds of every state of a run -/

/-- The key-down table is strictly ordered by code, KEY before AUX: at most one entry for any pair (R28). -/
def KeyTableSorted (s : State) : Prop :=
  s.router.entries.Pairwise fun a b => entryBefore a b = true

/-- The codes ascend, and every count listed is at least 1 (R38). -/
def Counts.Canonical (m : Counts) : Prop :=
  m.Pairwise (fun a b => a.1 < b.1) ∧ ∀ a ∈ m, 1 ≤ a.2

/-- The pressed counts of every channel are in that form. -/
def CountsCanonical (s : State) : Prop := ∀ c, Counts.Canonical (s.counts c)

/-- An item whose press names an entry (R11): a down whose release has not joined the queue. -/
def HoldItem.names (i : HoldItem) : Bool :=
  match i with
  | .keyDown _ _ _ n | .modHandover _ _ _ n | .buttonDown _ n => n
  | .keyUp _ _ _ _ | .buttonUp _ _ => false

/-- The key-down entry that an item's press names: port, console code and translated code. -/
def HoldItem.namedKey (i : HoldItem) : Option (Port × Code × Code) :=
  match i with
  | .keyDown p k t true | .modHandover p k t true => some (p, k, t)
  | _ => none

/-- The button whose entry an item's press names. -/
def HoldItem.namedButton (i : HoldItem) : Option Button :=
  match i with
  | .buttonDown b true => some b
  | _ => none

/-- A press of translated code t whose release is owed by the queue itself: it names no entry. -/
def HoldItem.pressesAlone (t : Code) (i : HoldItem) : Bool :=
  match i with
  | .keyDown _ _ u n | .modHandover _ _ u n => u == t && !n
  | _ => false

/-- A release of translated code t that lowers a count when it is drained. -/
def HoldItem.releases (t : Code) (i : HoldItem) : Bool :=
  match i with
  | .keyUp _ _ u settled => u == t && !settled
  | _ => false

/-- One channel's hold queue (R11): items and reservations fill at most 32 places, the reservations are the presses whose
release has not joined, those presses name exactly the QUEUED entries of the channel, each once, and every other press has
its release behind it. -/
def QueueSound (s : State) (c : Chan) : Prop :=
  (s.link c).queue.length + (s.link c).reserved ≤ 32 ∧
  (s.link c).reserved = (s.link c).queue.countP HoldItem.names ∧
  ((s.link c).queue.filterMap HoldItem.namedKey).Nodup ∧
  (∀ p k t, (p, k, t) ∈ (s.link c).queue.filterMap HoldItem.namedKey ↔
    ⟨p, k, .channel c (some t) .queued⟩ ∈ s.router.entries) ∧
  ((s.link c).queue.filterMap HoldItem.namedButton).Nodup ∧
  (∀ b, b ∈ (s.link c).queue.filterMap HoldItem.namedButton ↔
    nth s.pointer.buttons b = some (.channel c .queued)) ∧
  (∀ t, (s.link c).queue.countP (HoldItem.releases t) =
    (s.link c).queue.countP (HoldItem.pressesAlone t)) ∧
  (∀ t n, ((s.link c).queue.take n).countP (HoldItem.releases t) ≤
    ((s.link c).queue.take n).countP (HoldItem.pressesAlone t))

/-- The contributors that keep code k down on channel c (R38): its DELIVERED entries, and the player while it serves c. -/
def contributors (s : State) (c : Chan) (k : Code) : Nat :=
  s.router.entries.countP (fun e => e.target == .channel c (some k) .delivered)
    + (match s.player with
       | none => 0
       | some pl => if pl.chan = c ∧ k ∈ pl.pressed then 1 else 0)

/-- The whole discipline of held keys and buttons (R11, R28, R38): one entry for a pair, entries only for keys and buttons
of the last report of their port, the withheld tap's entry PENDING_TAP, sound queues, and counts equal to the number of
contributors. -/
def KeysSound (s : State) : Prop :=
  KeyTableSorted s ∧ CountsCanonical s ∧
  (∀ p, (s.keyPort p).state ≠ .active → (s.keyPort p).last = []) ∧
  (∀ e ∈ s.router.entries, e.code ∈ (s.keyPort e.port).last) ∧
  (∀ k p, s.attention = .tapDown k p → ⟨p, k, .pendingTap⟩ ∈ s.router.entries) ∧
  (s.console.ptr.state ≠ .active → s.console.ptr.last = noButtons) ∧
  (∀ b, nth s.pointer.buttons b ≠ none → nth s.console.ptr.last b = true) ∧
  (∀ c, QueueSound s c) ∧
  (∀ pl, s.player = some pl → pl.pressed.Nodup) ∧
  (∀ c k, countOf k (s.counts c) = contributors s c k)

/-- An item that changes a button's state when it is drained (R17). -/
def HoldItem.changesButton (b : Button) (i : HoldItem) : Bool :=
  match i with
  | .buttonDown d _ => d == b
  | .buttonUp d settled => d == b && !settled
  | _ => false

/-- What an item makes of a button's state when it is drained (R17). -/
def HoldItem.buttonAfter (b : Button) (down : Bool) (i : HoldItem) : Bool :=
  match i with
  | .buttonDown d _ => d == b || down
  | .buttonUp d settled => down && !(d == b && !settled)
  | _ => down

/-- The button states (R128): a channel's state is exactly the buttons whose entries target it with state DELIVERED; a drain
of its queue would add exactly those that are QUEUED; and no item of the queue changes a DELIVERED one. -/
def ButtonsSound (s : State) : Prop :=
  ∀ c b, (nth (s.held c) b = true ↔ nth s.pointer.buttons b = some (.channel c .delivered)) ∧
    ((s.link c).queue.foldl (HoldItem.buttonAfter b) (nth (s.held c) b) = true ↔
      nth s.pointer.buttons b = some (.channel c .delivered) ∨
      nth s.pointer.buttons b = some (.channel c .queued)) ∧
    (nth s.pointer.buttons b = some (.channel c .delivered) →
      ∀ i ∈ (s.link c).queue, i.changesButton b = false)

/-- A step of R85. -/
def MacroStep.InRange (st : MacroStep) : Prop :=
  match st with
  | .press k | .release k | .tap k => isKeyCode k = true
  | .pause n => n ≤ 2000

/-- A pressed set that a keyboard report can carry (R40): key codes, at most twelve of them non-modifiers. -/
def fitsReport (ks : List Code) : Prop :=
  (ks.filter fun k => !isModifier k).length ≤ 12 ∧ ∀ k ∈ ks, isKeyCode k = true

/-- The codes of keyboards, keymaps and macros, with the law of R40: a port's last report has at most six non-modifier codes,
translations keep modifiers apart from other codes (R31), and every channel's pressed set fits a report. -/
def CodesSound (s : State) : Prop :=
  (∀ p, ((s.keyPort p).last.filter fun k => !isModifier k).length ≤ 6 ∧
    ∀ k ∈ (s.keyPort p).last, isKeyCode k = true) ∧
  (∀ e ∈ s.router.entries, ∀ c t st, e.target = .channel c (some t) st →
    isKeyCode t = true ∧ isModifier t = isModifier e.code) ∧
  (∀ i, ∀ a ∈ nth s.tables.keymaps i, ∀ t, a.2 = some t →
    isKeyCode t = true ∧ isModifier t = isModifier a.1) ∧
  (∀ m, ∀ st ∈ (nth s.tables.macros m).steps, st.InRange) ∧
  (∀ pl, s.player = some pl →
    (∀ st ∈ pl.copy.steps, st.InRange) ∧ ∀ k ∈ pl.pressed, isKeyCode k = true) ∧
  ∀ c, fitsReport (s.pressedSet c)

/-- The policy stands at its power-on value until it is written, and no SET_POLICY waits once it is (R173, R176). -/
def PolicyOnce (s : State) : Prop :=
  (s.mgmt.policyWritten = false → s.mgmt.policy = .powerOn) ∧
  (s.mgmt.policyWritten = true → ∀ cf, s.mgmt.confirm = some cf → cf.kind ≠ .setPolicy)

/-- Every monitor's active layout passes the geometry check and the mix rule (R108, R109). -/
def LayoutsPass (s : State) : Prop :=
  ∀ m, s.layoutOk m (s.monitorRun m).active = true

/-- The layouts the part holds are well formed (R107): active, pending, and the parts of the presets. -/
def LayoutsWellFormed (s : State) : Prop :=
  (∀ m, layoutWellFormed (s.monitorRun m).active = true) ∧
  (∀ m w, (s.monitorRun m).waiting = some w → layoutWellFormed w.1 = true) ∧
  (∀ p m l, nth (nth s.tables.presets p) m = some l → layoutWellFormed l = true)

/-- The active layouts pass the geometry check (R108). -/
def LayoutsFit (s : State) : Prop :=
  ∀ m, geometryOk s.tables m (s.monitorRun m).active = true

/-- A MONITORS record in its range (R104). -/
def MonitorRec.InRange (r : MonitorRec) : Prop :=
  r.x ≤ 32767 ∧ r.y ≤ 32767 ∧ 1 ≤ r.width ∧ r.width ≤ 7680 ∧ 1 ≤ r.height ∧ r.height ≤ 4320 ∧
  r.x + r.width ≤ 32768 ∧ r.y + r.height ≤ 32768 ∧ 24 ≤ r.refresh ∧ r.refresh ≤ 144

/-- R127: parked exactly while no monitor is live, then at (0, 0) without a pointer channel; otherwise inside the
rectangle of a live monitor. The fractions lie in -255 to 255. -/
def PointerOnDesk (s : State) : Prop :=
  (s.pointer.parked = true ↔ s.liveMonitors = []) ∧
  (s.pointer.parked = true → s.pointer.x = 0 ∧ s.pointer.y = 0 ∧ s.pointer.fx = 0 ∧
    s.pointer.fy = 0 ∧ s.pointer.channel = none) ∧
  (s.pointer.parked = false →
    ∃ m, s.live m = true ∧ (s.monitorRect m).contains s.pointer.x s.pointer.y = true) ∧
  s.pointer.fx.natAbs ≤ 255 ∧ s.pointer.fy.natAbs ≤ 255

/-- The desk pointer's invariant with what it rests on: monitors in range, layouts well formed and inside their
monitors. -/
def DeskInvariant (s : State) : Prop :=
  PointerOnDesk s ∧ (∀ m, (nth s.tables.monitors m).InRange) ∧ LayoutsWellFormed s ∧ LayoutsFit s

/-- Two sets of tables agree on one table. -/
def sameTable (t : Table) (A B : Tables) : Prop :=
  match t with
  | .channels => A.channels = B.channels
  | .authority => A.authority = B.authority
  | .heads => A.heads = B.heads
  | .monitors => A.monitors = B.monitors
  | .presets => A.presets = B.presets
  | .hotkeys => A.hotkeys = B.hotkeys
  | .keymaps => A.keymaps = B.keymaps
  | .macros => A.macros = B.macros
  | .ballistics => A.ballistics = B.ballistics
  | .desk => A.desk = B.desk

/-- The contents of the tables locked in `s`, and of a policy written in `s`, stand in `t`, and so do the locks (R169). -/
def LockedKept (s t : State) : Prop :=
  (∀ T, s.locked T = true → t.locked T = true ∧ sameTable T s.tables t.tables) ∧
  (s.mgmt.policyWritten = true → t.mgmt.policyWritten = true ∧ t.mgmt.policy = s.mgmt.policy)

/-- The commands after which the focus channel may be another although the focus is pinned: those that carry a hotkey, a
management SELECT or a reset (R68, R74). -/
def mayMovePinned (i : Instr) : Bool :=
  match i with
  | .keyboardReport _ _ | .select _ _ | .unknownCommand _ _ | .deskRestart _ _
  | .powerOnReset _ => true
  | _ => false

/-- The two resets, which set the focus channel without R69; an UNKNOWN_COMMAND's report may name DESK_RESTART (log
24). -/
def resetsFocus (i : Instr) : Bool :=
  match i with
  | .deskRestart _ _ | .powerOnReset _ | .unknownCommand _ _ => true
  | _ => false

/-- The commands in which a glide is the only focus change, and one at most (R69, R150, R153, R154). -/
def glideOnly (i : Instr) : Bool :=
  match i with
  | .dwellExpiry | .pointerReport _ | .pointerPortDetach | .frameStart _ => true
  | _ => false

/-! ## A pointer at rest -/

/-- A sample without motion, wheel and pan moves nothing and tells no channel anything: the fractions are below a step, the
pointer channel is the owner of P, and a deliverable one has been told P's coordinates. -/
def PointerStill (s : State) : Prop :=
  s.pointer.fx.natAbs ≤ 255 ∧ s.pointer.fy.natAbs ≤ 255 ∧ s.pointer.channel = s.ownerOfPointer ∧
  ∀ c, s.pointer.channel = some c → s.deliverable c = true →
    nth s.pointer.lastAbs c = s.mapPoint c s.pointer.x s.pointer.y

/-! ## Reports of one key -/

/-- A console report with no modifier and one key, or none for code 0. -/
def oneKeyReport (k : Code) : KeyboardBytes := ⟨0, 0, byteOf k, 0, 0, 0, 0, 0⟩

/-- A console report with modifier 224 + n alone. -/
def oneModifierReport (n : Fin 8) : KeyboardBytes := ⟨BitVec.twoPow 8 n.val, 0, 0, 0, 0, 0, 0, 0⟩

/-! ## Written records -/

/-- The record image at a position of a table put in place, and whether a numeric setting of it was clamped; `none` where the
image has a structural fault (R167, R185). A table of one record takes it at any position. -/
def readRecord (T : Table) (k : Nat) (image : List Byte) (A : Tables) : Option (Tables × Bool) :=
  match T with
  | .channels => (parseChannel image).map fun r => ({ A with channels := putAt A.channels k r.1 }, r.2)
  | .authority => (parseAuthority image).map fun r => ({ A with authority := putAt A.authority k r.1 }, r.2)
  | .heads => (parseHead image).map fun r => ({ A with heads := putAt A.heads k r.1 }, r.2)
  | .monitors => (parseMonitor image).map fun r => ({ A with monitors := putAt A.monitors k r.1 }, r.2)
  | .presets => (parsePreset image).map fun r => ({ A with presets := putAt A.presets k r.1 }, r.2)
  | .hotkeys => (parseHotkey image).map fun r => ({ A with hotkeys := putAt A.hotkeys k r.1 }, r.2)
  | .keymaps => (parseKeymap image).map fun r => ({ A with keymaps := putAt A.keymaps k r.1 }, r.2)
  | .macros => (parseMacro image).map fun r => ({ A with macros := putAt A.macros k r.1 }, r.2)
  | .ballistics => (parseBallistics image).map fun r => ({ A with ballistics := r.1 }, r.2)
  | .desk => (parseDesk image).map fun r => ({ A with desk := r.1 }, r.2)

/-- A layout in use on a monitor: its active or its pending one (R120). -/
def State.inUse (s : State) (m : Monitor) (l : Layout) : Prop :=
  l = (s.monitorRun m).active ∨ ∃ o, (s.monitorRun m).waiting = some (l, o)

/-- A tile of a layout brings another group than before a write, and one that may not be mixed there (R109, R120). -/
def tileClashes (old new : Tables) (P : Policy) (l : Layout) (t : Tile) : Prop :=
  ∃ g, tileGroup new t = some g ∧ tileGroup old t ≠ some g ∧
    ∃ u ∈ l, ∃ a, tileGroup new u = some a ∧ P.mixes g a = false

/-- The record at a position of a table, with the written records in place, fails a check of its own across records and
tables: the desktop of a channel (R1, R103), a head in its desktop (R103), the rectangle of a monitor (R104). -/
def recordMisfits (T : Table) (W : Tables) (k : Nat) : Prop :=
  match T with
  | .channels => ∃ c : Chan, c.val = k ∧ ∃ h, (nth W.heads h).owner = some c ∧
      ((nth W.channels c).width < (nth W.heads h).ox + (nth W.heads h).width ∨
        (nth W.channels c).height < (nth W.heads h).oy + (nth W.heads h).height)
  | .heads => ∃ h : Head, h.val = k ∧ ∃ c, (nth W.heads h).owner = some c ∧
      ((nth W.channels c).width < (nth W.heads h).ox + (nth W.heads h).width ∨
        (nth W.channels c).height < (nth W.heads h).oy + (nth W.heads h).height)
  | .monitors => ∃ m : Monitor, m.val = k ∧ (nth W.monitors m).enabled = true ∧
      ∃ n, n ≠ m ∧ (nth W.monitors n).enabled = true ∧
        (nth W.monitors m).rect.meets (nth W.monitors n).rect = true
  | _ => False

/-- The new contents of the record at a position make a layout in use fail, as log 15 reads the table of R120. -/
def State.recordBreaks (s : State) (T : Table) (W : Tables) (k : Nat) : Prop :=
  match T with
  | .channels => ∃ c : Chan, c.val = k ∧ ∃ m l, s.inUse m l ∧ ∃ t ∈ l, ∃ v, t.content = some v ∧
      (nth W.heads v.head).owner = some c ∧ tileClashes s.tables W s.mgmt.policy l t
  | .heads => ∃ h : Head, h.val = k ∧ ∃ m l, s.inUse m l ∧ ∃ t ∈ l, ∃ v, t.content = some v ∧
      v.head = h ∧ (tileFits W m t = false ∨ tileClashes s.tables W s.mgmt.policy l t)
  | .monitors => ∃ m : Monitor, m.val = k ∧ ∃ l, s.inUse m l ∧ geometryOk W m l = false
  | _ => False

/-! ## Records in their ranges -/

/-- R1. -/
def ChannelRec.InRange (r : ChannelRec) : Prop :=
  1 ≤ r.wakeTries ∧ r.wakeTries ≤ 4 ∧ 100 ≤ r.wakeWindow ∧ r.wakeWindow ≤ 2000 ∧
  2 ≤ r.width ∧ r.width ≤ 16384 ∧ 2 ≤ r.height ∧ r.height ≤ 16384

/-- R100. -/
def HeadRec.InRange (r : HeadRec) : Prop :=
  1 ≤ r.width ∧ r.width ≤ 7680 ∧ 1 ≤ r.height ∧ r.height ≤ 4320 ∧ r.ox ≤ 16383 ∧ r.oy ≤ 16383

/-- R44. -/
def HotkeyEntry.InRange (h : HotkeyEntry) : Prop := isOrdinary h.trigger = true

/-- R31. -/
def Keymap.InRange (km : Keymap) : Prop :=
  km.length ≤ 64 ∧ km.Pairwise (fun a b => a.1 < b.1) ∧
  ∀ p ∈ km, isKeyCode p.1 = true ∧
    ∀ t, p.2 = some t → isKeyCode t = true ∧ isModifier p.1 = isModifier t

/-- R85. -/
def MacroRec.InRange (m : MacroRec) : Prop :=
  1 ≤ m.interval ∧ m.interval ≤ 50 ∧ 1 ≤ m.steps.length ∧ m.steps.length ≤ 64 ∧
  ∀ st ∈ m.steps, st.InRange

/-- R130. -/
def Ballistics.InRange (b : Ballistics) : Prop :=
  16 ≤ b.g0 ∧ b.g0 ≤ 2048 ∧ b.vb ≤ 255 ∧ b.k ≤ 1024 ∧ b.g0 ≤ b.gmax ∧ b.gmax ≤ 4096

/-- R168. -/
def Desk.InRange (d : Desk) : Prop :=
  (d.attentionCode = 0 ∨ isOrdinary d.attentionCode = true) ∧
  100 ≤ d.tapWindow ∧ d.tapWindow ≤ 1000 ∧ 500 ≤ d.armWindow ∧ d.armWindow ≤ 5000 ∧
  d.dwell ≤ 1000 ∧ 2 ≤ d.confirmWindow ∧ d.confirmWindow ≤ 30 ∧ d.cueVolume ≤ 3 ∧
  d.alertSet.getLsbD 23 = false ∧ d.retainSet.getLsbD 23 = false

/-- R113. -/
def Preset.InRange (p : Preset) : Prop := ∀ m l, nth p m = some l → layoutWellFormed l = true

/-- Tables whose records lie in their ranges and pass the checks across records and tables: some floor is 0 (R163), every
owned head lies inside its desktop (R103), no two enabled monitors meet (R104). -/
def Tables.Sound (T : Tables) : Prop :=
  (∀ c, (nth T.channels c).InRange) ∧ (∃ c, nth T.authority c = 0) ∧
  (∀ h, (nth T.heads h).InRange ∧ ∀ o, (nth T.heads h).owner = some o →
    (nth T.heads h).ox + (nth T.heads h).width ≤ (nth T.channels o).width ∧
    (nth T.heads h).oy + (nth T.heads h).height ≤ (nth T.channels o).height) ∧
  (∀ m, (nth T.monitors m).InRange ∧ ∀ k, k ≠ m → (nth T.monitors m).enabled = true →
    (nth T.monitors k).enabled = true →
    (nth T.monitors m).rect.meets (nth T.monitors k).rect = false) ∧
  (∀ p, (nth T.presets p).InRange) ∧ (∀ i, (nth T.hotkeys i).InRange) ∧
  (∀ i, (nth T.keymaps i).InRange) ∧ (∀ m, (nth T.macros m).InRange) ∧
  T.ballistics.InRange ∧ T.desk.InRange

end Sys2Proof.Machine
end

