-- ==== Sys2Proof/Certificates/Slice0/Obligations.lean ====
section
/-! DEFINITION. The statements for the provers. `newSent s t` is what a step from `s` to `t` sent; an equation `t = { s with a := t.a, ... }` says that every field but those named is unchanged. -/

section Statements

open Sys2Proof Sys2Proof.Machine

/-! ## The queue and every command -/

/-- A step is exec of the command at the front of the queue on the state with the queue's rest; an empty queue idles
(the idling is the model's choice, log 9). -/
def Obligations.StepRunsFrontCommand : Prop :=
  (∀ (c : Instr) (rest : List Instr) (s : State), s.pending = c :: rest →
    step s = exec c { s with pending := rest }) ∧
  (∀ s : State, s.pending = [] → step s = .next s)

/-- Every command completes in every state. That one whose arrival cannot occur completes too, with no change, is log 7's reading;
that none touches the queue of waiting commands is the model's choice of that queue (log 11); that each only appends to what
has been sent is the model's choice of the output log (log 10). -/
def Obligations.EveryCommandCompletes : Prop :=
  ∀ (i : Instr) (s : State), ∃ t, exec i s = .next t ∧ t.pending = s.pending ∧
    ∃ l, t.sent = s.sent ++ l

/-- R3: a channel whose link is not ACTIVE gets no report of any kind from any command but its own CONFIGURE and RESUME,
and none but these makes the link ACTIVE. -/
def Obligations.ReportsOnlyOnActiveLinks : Prop :=
  ∀ (i : Instr) (s t : State) (c : Chan), exec i s = .next t →
    (s.link c).state ≠ .active → i ≠ .configure c → i ≠ .resume c →
    (t.link c).state ≠ .active ∧ reportsTo c (newSent s t) = []

/-! ## Resets and links (chapter 01) -/

/-- What POWER_ON_RESET leaves in every unit (R21, R42, R66, R82, R98, R122, R147, R159, R180, R181): the desk pointer on
the lowest live monitor or parked, no event but DESK_START, STORE_FAULT, LAYOUT_REFUSED and MIX_REFUSED latched, and the
active layout of every monitor. What has been sent stays as it was (log 10). -/
def Obligations.PowerOnState : Prop :=
  (∀ (detect : Vector Bool 6) (s : State), ∃ t, exec (.powerOnReset detect) s = .next t ∧
     (∀ c, t.link c = {
       state := .detached, remoteWake := false, permission := false, window := none, tries := 0,
       queue := [], reserved := 0, leds := 0 }) ∧
     (∀ p, t.keyPort p = ⟨.absent, []⟩) ∧ t.console.ptr = ⟨.absent, noButtons⟩ ∧
     t.router.entries = [] ∧ (∀ c, t.counts c = []) ∧ t.attention = .idle ∧ t.player = none ∧
     t.skipped = 0 ∧ t.focus.channel = t.tables.desk.defaultFocus ∧ t.focus.pinned = false ∧
     t.focus.glideEnabled = t.tables.desk.glideDefault ∧ t.focus.dwell = none ∧
     t.focus.cue = none ∧
     (∀ b, nth t.pointer.buttons b = none) ∧ (∀ c, t.held c = noButtons) ∧
     (∀ c, nth t.pointer.lastAbs c = none) ∧ t.pointer.fx = 0 ∧ t.pointer.fy = 0 ∧
     (t.liveMonitors = [] → t.pointer.parked = true ∧ t.pointer.x = 0 ∧ t.pointer.y = 0) ∧
     (∀ k rest, t.liveMonitors = k :: rest → t.pointer.parked = false ∧
       t.pointer.x = (t.monitorRect k).x + (t.monitorRect k).w / 2 ∧
       t.pointer.y = (t.monitorRect k).y + (t.monitorRect k).h / 2) ∧
     t.pointer.channel = (if t.captive then none else t.ownerOfPointer) ∧
     (∀ h, nth t.display.heads h = none) ∧
     (∀ m, (t.monitorRun m).connected = nth detect m ∧ (t.monitorRun m).waiting = none ∧
       t.layoutOk m (t.monitorRun m).active = true) ∧
     (∀ T, t.locked T = false) ∧ t.mgmt.policy = .powerOn ∧ t.mgmt.policyWritten = false ∧
     t.mgmt.confirm = none ∧ (∀ c, nth t.mgmt.slots c = none) ∧ t.mgmt.save = none ∧
     hasEvent t.mgmt.latch .deskStart = true ∧
     (∀ e, hasEvent t.mgmt.latch e = true →
       e = .deskStart ∨ e = .storeFault ∨ e = .layoutRefused ∨ e = .mixRefused) ∧
     t.mgmt.alertOutstanding = false ∧ t.sent = s.sent) ∧
  (∀ (detect : Vector Bool 6) (s : State) (m : Monitor), ∃ t,
     exec (.powerOnReset detect) s = .next t ∧
     (∀ l, nth (nth t.tables.presets 0) m = some l → t.layoutOk m l = true →
       (t.monitorRun m).active = l ∧ (t.monitorRun m).activeOrigin = .preset 0) ∧
     ((nth (nth t.tables.presets 0) m = none ∨
         ∃ l, nth (nth t.tables.presets 0) m = some l ∧ t.layoutOk m l = false) →
       (t.monitorRun m).active = [⟨⟨0, 0, (nth t.tables.monitors m).width,
         (nth t.tables.monitors m).height⟩, none⟩] ∧
       (t.monitorRun m).activeOrigin = .blankDefault) ∧
     (∀ l, nth (nth t.tables.presets 0) m = some l →
       (geometryOk t.tables m l = false → hasEvent t.mgmt.latch .layoutRefused = true) ∧
       (mixOk t.tables .powerOn l = false → hasEvent t.mgmt.latch .mixRefused = true)) ∧
     ((t.monitorRun m).picture.isSome = t.live m))

/-- R4: a configuration of a DETACHED link brings it to ACTIVE with LINK_UP and sends no input report; on a link that is
not DETACHED it is a loss followed by a configuration (on a SUSPENDED or WAKING one by the model's choice, log 8). -/
def Obligations.ConfigureBringsUp : Prop :=
  ∀ (c : Chan) (s : State),
    ((s.link c).state = .detached → ∃ t, exec (.configure c) s = .next t ∧
      t = { s with links := t.links, mgmt := t.mgmt, sent := t.sent } ∧
      t.link c = { s.link c with
        state := .active, leds := 0, remoteWake := false, permission := false, tries := 0 } ∧
      (∀ d, d ≠ c → t.link d = s.link d) ∧
      t.mgmt = { s.mgmt with
        latch := addEvent s.mgmt.latch .linkUp, alertOutstanding := t.mgmt.alertOutstanding } ∧
      inputReports c (newSent s t) = []) ∧
    ((s.link c).state ≠ .detached → ∃ u, exec (.linkLoss c) s = .next u ∧
      (u.link c).state = .detached ∧ exec (.configure c) s = exec (.configure c) u)

/-- R10 with R27, R96, R145, R152, R184: what a loss of a link does in every unit, the console LEDs when the channel has the
focus among it, and that no report follows on it. KEY's LED report leaves before AUX's by the model's choice (log 13). A loss
of a DETACHED link changes nothing (log 7). -/
def Obligations.LinkLossEffects : Prop :=
  ∀ (c : Chan) (s : State),
    ((s.link c).state = .detached → exec (.linkLoss c) s = .next s) ∧
    ((s.link c).state ≠ .detached → ∃ t, exec (.linkLoss c) s = .next t ∧
      t = { s with
        router := t.router, links := t.links, pointer := t.pointer, focus := t.focus,
        player := t.player, mgmt := t.mgmt, sent := t.sent } ∧
      t.link c = {
        state := .detached, remoteWake := false, permission := false, window := none, tries := 0,
        queue := [], reserved := 0, leds := 0 } ∧
      (∀ d, d ≠ c → t.link d = s.link d) ∧
      t.router.entries = s.router.entries.map (fun e =>
        if e.target.isChannel c then { e with target := .consumed } else e) ∧
      t.counts c = [] ∧ (∀ d, d ≠ c → t.counts d = s.counts d) ∧
      t.pointer = { s.pointer with
        buttons := t.pointer.buttons, held := t.pointer.held, lastAbs := t.pointer.lastAbs } ∧
      (∀ b, nth t.pointer.buttons b = match nth s.pointer.buttons b with
        | some (.channel d st) => if d = c then some .consumed else some (.channel d st)
        | other => other) ∧
      t.held c = noButtons ∧ (∀ d, d ≠ c → t.held d = s.held d) ∧
      nth t.pointer.lastAbs c = none ∧
      (∀ d, d ≠ c → nth t.pointer.lastAbs d = nth s.pointer.lastAbs d) ∧
      t.focus = { s.focus with
        dwell := if s.focus.dwell.map (·.candidate) = some c then none else s.focus.dwell } ∧
      t.player = (if s.serves c then none else s.player) ∧
      t.mgmt = { s.mgmt with
        latch := (if s.serves c then addEvent (addEvent s.mgmt.latch .linkDown) .macroAborted
          else addEvent s.mgmt.latch .linkDown),
        alertOutstanding := t.mgmt.alertOutstanding, slots := put s.mgmt.slots c none } ∧
      (s.tables.desk.alertChannel = some c → t.mgmt.alertOutstanding = false) ∧
      ledReportsIn (newSent s t) = (if s.focus.channel = some c then ledReports t else []) ∧
      reportsTo c (newSent s t) = [])

/-- R5 and R94: the remote-wake setting; a suspend that meets no playing player; a suspend of the channel a player plays
into, with the wake allowed and with it denied. -/
def Obligations.SuspendEffects : Prop :=
  ∀ (c : Chan) (s : State), (s.link c).state = .active →
    (∀ on, ∃ t, exec (.setRemoteWake c on) s = .next t ∧ t = { s with links := t.links } ∧
      t.link c = { s.link c with remoteWake := on } ∧ ∀ d, d ≠ c → t.link d = s.link d) ∧
    ((∀ pl, s.player = some pl → pl.chan = c → pl.playing = false) →
      ∃ t, exec (.suspend c) s = .next t ∧
        t = { s with links := t.links, mgmt := t.mgmt, sent := t.sent } ∧
        t.link c = { s.link c with
          state := .suspended, permission := (s.link c).remoteWake } ∧
        (∀ d, d ≠ c → t.link d = s.link d) ∧
        t.mgmt = { s.mgmt with
          latch := addEvent s.mgmt.latch .suspended
          alertOutstanding := t.mgmt.alertOutstanding } ∧
        reportsTo c (newSent s t) = []) ∧
    (∀ pl, s.player = some pl → pl.chan = c → pl.playing = true →
      (s.link c).remoteWake = true → ∃ t, exec (.suspend c) s = .next t ∧
        t = { s with links := t.links, player := t.player, mgmt := t.mgmt, sent := t.sent } ∧
        t.player = some { pl with playing := false } ∧
        t.link c = { s.link c with
          state := .waking, permission := true, window := some (s.chanRec c).wakeWindow,
          tries := 1 } ∧
        (∀ d, d ≠ c → t.link d = s.link d) ∧ hasEvent t.mgmt.latch .suspended = true ∧
        Sent.wakeSignal c ∈ newSent s t ∧ reportsTo c (newSent s t) = []) ∧
    (∀ pl, s.player = some pl → pl.chan = c → pl.playing = true →
      (s.link c).remoteWake = false → ∃ t, exec (.suspend c) s = .next t ∧ t.player = none ∧
        t.link c = { s.link c with state := .suspended, permission := false } ∧
        (∀ d, d ≠ c → t.link d = s.link d) ∧
        t.router.entries = s.router.entries ∧
        t.counts c = pl.pressed.foldl (fun m k => countDown k m) (s.counts c) ∧
        hasEvent t.mgmt.latch .suspended = true ∧ hasEvent t.mgmt.latch .wakeDenied = true ∧
        hasEvent t.mgmt.latch .macroAborted = true ∧ reportsTo c (newSent s t) = [])

/-- R6, R17, R95: a resume of a channel no player serves sends the two resume reports and then empties its queue item by
item, head first; a resume of a served channel keeps the queue and sends the two reports; one in ACTIVE changes nothing. -/
def Obligations.ResumeEffects : Prop :=
  ∀ (c : Chan) (s : State),
    ((s.link c).state = .active → exec (.resume c) s = .next s) ∧
    ((s.link c).state = .suspended ∨ (s.link c).state = .waking →
      (s.serves c = false → ∃ t, exec (.resume c) s = .next t ∧
        t = { s with
          links := t.links, router := t.router, pointer := t.pointer, mgmt := t.mgmt,
          sent := t.sent } ∧
        t.link c = { s.link c with
          state := .active, window := none, tries := 0, permission := false, queue := [],
          reserved := 0 } ∧
        (∀ d, d ≠ c → t.link d = s.link d) ∧ hasEvent t.mgmt.latch .resumed = true ∧
        ∃ u, u = { s with links := t.links, mgmt := t.mgmt, sent := u.sent } ∧
          inputReports c (newSent s u) =
            [(.keyboard, keyboardReportBytes (s.pressedSet c)),
             (.relativePointer, relativeBytes (s.held c) 0 0 0 0)] ∧
          t = (s.link c).queue.foldl (drainItem c) u) ∧
      (∀ pl, s.player = some pl → pl.chan = c → ∃ t, exec (.resume c) s = .next t ∧
        t = { s with links := t.links, player := t.player, mgmt := t.mgmt, sent := t.sent } ∧
        t.player = some { pl with playing := true } ∧
        t.link c = { s.link c with
          state := .active, window := none, tries := 0, permission := false } ∧
        (∀ d, d ≠ c → t.link d = s.link d) ∧ hasEvent t.mgmt.latch .resumed = true ∧
        inputReports c (newSent s t) =
          [(.keyboard, keyboardReportBytes (s.pressedSet c)),
           (.relativePointer, relativeBytes (s.held c) 0 0 0 0)]))

/-- The table of R17: what each item of a drain does to the counts, the entry it names, the button state and the reports. -/
def Obligations.DrainItemEffects : Prop :=
  ∀ (c : Chan) (s : State), (s.link c).state = .active → KeyTableSorted s →
    (∀ (p : Port) (k t : Code) (named : Bool) (u : State),
      (u = drainItem c s (.keyDown p k t named) ∨ u = drainItem c s (.modHandover p k t named)) →
      u = { s with router := u.router, sent := u.sent } ∧
      u.counts c = countUp t (s.counts c) ∧ (∀ d, d ≠ c → u.counts d = s.counts d) ∧
      u.router.entries = s.router.entries.map (fun e => match e with
        | ⟨q, j, .channel d tr .queued⟩ =>
          if named = true ∧ q = p ∧ j = k ∧ d = c then ⟨q, j, .channel d tr .delivered⟩ else e
        | e => e) ∧
      inputReports c (newSent s u) =
        if countOf t (s.counts c) = 0 then [(.keyboard, keyboardReportBytes (u.pressedSet c))]
        else []) ∧
    (∀ (p : Port) (k t : Code) (u : State), u = drainItem c s (.keyUp p k t false) →
      u = { s with router := u.router, sent := u.sent } ∧
      u.counts c = countDown t (s.counts c) ∧ (∀ d, d ≠ c → u.counts d = s.counts d) ∧
      u.router.entries = s.router.entries ∧
      inputReports c (newSent s u) =
        if countOf t (s.counts c) = 1 then [(.keyboard, keyboardReportBytes (u.pressedSet c))]
        else []) ∧
    (∀ (p : Port) (k t : Code), drainItem c s (.keyUp p k t true) = s) ∧
    (∀ (b : Button) (named : Bool) (u : State), u = drainItem c s (.buttonDown b named) →
      u = { s with pointer := u.pointer, sent := u.sent } ∧
      u.held c = put (s.held c) b true ∧ (∀ d, d ≠ c → u.held d = s.held d) ∧
      (∀ a, nth u.pointer.buttons a =
        if a = b ∧ named = true ∧ nth s.pointer.buttons a = some (.channel c .queued) then
          some (.channel c .delivered)
        else nth s.pointer.buttons a) ∧
      inputReports c (newSent s u) = [(.relativePointer, relativeBytes (u.held c) 0 0 0 0)]) ∧
    (∀ (b : Button) (u : State), u = drainItem c s (.buttonUp b false) →
      u = { s with pointer := u.pointer, sent := u.sent } ∧
      u.held c = put (s.held c) b false ∧ (∀ d, d ≠ c → u.held d = s.held d) ∧
      u.pointer.buttons = s.pointer.buttons ∧
      inputReports c (newSent s u) = [(.relativePointer, relativeBytes (u.held c) 0 0 0 0)]) ∧
    (∀ b : Button, drainItem c s (.buttonUp b true) = s)

/-- R8 and R9 with R18: another attempt while tries used is below wake tries; otherwise the wake fails. Where no window
runs nothing happens (log 7). -/
def Obligations.WakeWindowExpiry : Prop :=
  ∀ (c : Chan) (s : State),
    ((s.link c).state ≠ .waking → exec (.wakeWindowExpiry c) s = .next s) ∧
    ((s.link c).state = .waking → (s.link c).tries < (s.chanRec c).wakeTries →
      ∃ t, exec (.wakeWindowExpiry c) s = .next t ∧
        t = { s with links := t.links, sent := s.sent ++ [.wakeSignal c] } ∧
        t.link c = { s.link c with
          window := some (s.chanRec c).wakeWindow, tries := (s.link c).tries + 1 } ∧
        ∀ d, d ≠ c → t.link d = s.link d) ∧
    ((s.link c).state = .waking → (s.chanRec c).wakeTries ≤ (s.link c).tries →
      ∃ t, exec (.wakeWindowExpiry c) s = .next t ∧
        t = { s with
          router := t.router, links := t.links, pointer := t.pointer, focus := t.focus,
          player := t.player, mgmt := t.mgmt, sent := t.sent } ∧
        t.link c = { s.link c with
          state := .suspended, window := none, tries := 0, queue := [], reserved := 0 } ∧
        (∀ d, d ≠ c → t.link d = s.link d) ∧
        t.focus = { s.focus with cue := some ⟨.fail, 0, s.tables.desk.cueVolume⟩ } ∧
        t.router.entries = s.router.entries.map (fun e =>
          if (s.link c).queue.any (·.namesKey e.port e.code) then { e with target := .consumed }
          else e) ∧
        (∀ b, nth t.pointer.buttons b =
          if (s.link c).queue.any (fun i => i == .buttonDown b true) then some .consumed
          else nth s.pointer.buttons b) ∧
        hasEvent t.mgmt.latch .wakeFailed = true ∧
        (s.serves c = false → t.player = s.player ∧ t.router.counts = s.router.counts) ∧
        (s.serves c = true → t.player = none ∧ hasEvent t.mgmt.latch .macroAborted = true) ∧
        reportsTo c (newSent s t) = [])

/-- The table of R7, and a management WAKE, which maps its outcome to the response and does nothing else, and is INVALID where it
names no channel (R177). -/
def Obligations.WakeRequests : Prop :=
  (∀ (c : Chan) (s : State),
     ((s.link c).state = .detached → wakeRequest c s = (.absent, s)) ∧
     ((s.link c).state = .active → wakeRequest c s = (.awake, s)) ∧
     ((s.link c).state = .waking → wakeRequest c s = (.inProgress, s)) ∧
     ((s.link c).state = .suspended → (s.link c).permission = true → ∃ t,
       wakeRequest c s = (.started, t) ∧
       t = { s with links := t.links, sent := s.sent ++ [.wakeSignal c] } ∧
       t.link c = { s.link c with
         state := .waking, window := some (s.chanRec c).wakeWindow, tries := 1 } ∧
       ∀ d, d ≠ c → t.link d = s.link d) ∧
     ((s.link c).state = .suspended → (s.link c).permission = false → ∃ t,
       wakeRequest c s = (.denied, t) ∧ t = { s with mgmt := t.mgmt, sent := t.sent } ∧
       t.mgmt = { s.mgmt with
         latch := addEvent s.mgmt.latch .wakeDenied, alertOutstanding := t.mgmt.alertOutstanding })) ∧
  (∀ (c : Chan) (f : Frame) (s : State), Accepted .wake c f s →
     byteAt f.payload 0 = 0 ∨ 8 < byteAt f.payload 0 →
     exec (.wake c f) s = .next (answer .wake c f ⟨.invalid, [], none⟩ s s)) ∧
  (∀ (c n : Chan) (f : Frame) (s : State), Accepted .wake c f s →
     f.payload = [byteOf (n.val + 1)] →
     ((s.link n).state = .detached →
       exec (.wake c f) s = .next (answer .wake c f ⟨.invalid, [10], none⟩ s s)) ∧
     ((s.link n).state = .active →
       exec (.wake c f) s = .next (answer .wake c f ⟨.ok, [6], none⟩ s s)) ∧
     ((s.link n).state = .waking →
       exec (.wake c f) s = .next (answer .wake c f ⟨.ok, [5], none⟩ s s)) ∧
     ((s.link n).state = .suspended → (s.link n).permission = true → ∃ u,
       exec (.wake c f) s = .next (answer .wake c f ⟨.ok, [4], none⟩ s u) ∧
       u = { s with links := u.links, sent := s.sent ++ [.wakeSignal n] } ∧
       u.link n = { s.link n with
         state := .waking, window := some (s.chanRec n).wakeWindow, tries := 1 } ∧
       ∀ d, d ≠ n → u.link d = s.link d) ∧
     ((s.link n).state = .suspended → (s.link n).permission = false →
       exec (.wake c f) s =
         .next (answer .wake c f ⟨.invalid, [9], none⟩ s (latch .wakeDenied s))))

/-- R19, R20, R27: an LED output report sets the five lamps, and the console keyboards follow when the record of the focus
channel changed; the answers to requests for current reports come from records and change none. Neither is taken in a link
state other than ACTIVE (log 7). KEY's LED report leaves before AUX's by the model's choice (log 13). Wheel and pan of the
absolute answer are 0 (log 21). -/
def Obligations.LedsAndCurrentReports : Prop :=
  (∀ (c : Chan) (lamps : Byte) (s : State),
     ((s.link c).state ≠ .active → exec (.ledOutputReport c lamps) s = .next s) ∧
     ((s.link c).state = .active → ∃ t, exec (.ledOutputReport c lamps) s = .next t ∧
       t = { s with links := t.links, sent := t.sent } ∧
       t.link c = { s.link c with leds := lamps.setWidth 5 } ∧
       (∀ d, d ≠ c → t.link d = s.link d) ∧
       newSent s t =
         if s.focus.channel = some c ∧ (s.link c).leds ≠ lamps.setWidth 5 then ledReports t
         else [])) ∧
  (∀ (c : Chan) (s : State),
     ((s.link c).state ≠ .active → ∀ i, exec (.getReport c i) s = .next s) ∧
     ((s.link c).state = .active →
       exec (.getReport c .keyboard) s = .next { s with
         sent := s.sent ++ [.report c .keyboard (keyboardReportBytes (s.pressedSet c))] } ∧
       (∀ ax ay, nth s.pointer.lastAbs c = some (ax, ay) ∨
           (nth s.pointer.lastAbs c = none ∧ ax = 0 ∧ ay = 0) →
         exec (.getReport c .absolutePointer) s = .next { s with
           sent := s.sent ++
             [.report c .absolutePointer (absoluteBytes (s.held c) ax ay 0 0)] }) ∧
       exec (.getReport c .relativePointer) s = .next { s with
         sent := s.sent ++ [.report c .relativePointer [buttonByte (s.held c), 0, 0, 0, 0]] } ∧
       exec (.getReport c .keyboardLeds) s = .next { s with
         sent := s.sent ++ [.report c .keyboardLeds [(s.link c).leds.setWidth 8]] } ∧
       (nth s.mgmt.slots c = none → exec (.getReport c .management) s = .next { s with
         sent := s.sent ++ [.report c .management [0, 0, 0, 0, 0, 0, 0]] }) ∧
       (∀ r, nth s.mgmt.slots c = some r → exec (.getReport c .management) s = .next { s with
         sent := s.sent ++ [.report c .management (responseBytes r)] })))

/-! ## Keys (chapter 02) -/

/-- R23, R24 with R27, R34: an attach to an ABSENT port; a detach from ACTIVE, which is a key-up for every entry of the
port: the entries go, every count falls by the DELIVERED entries that held it, every reservation by the QUEUED entries, and
a withheld tap is released. An attach to a port that has a device and a detach from an ABSENT one change nothing (log 7);
a REJECTED port keeps its empty last report (log 26). -/
def Obligations.KeyboardPorts : Prop :=
  (∀ (p q : Port) (s : State), q ≠ p →
     ((s.keyPort p).state ≠ .absent → ∀ b, exec (.keyboardPortAttach p b) s = .next s) ∧
     ((s.keyPort p).state = .absent →
       (∃ t, exec (.keyboardPortAttach p true) s = .next t ∧
         t = { s with
           console := t.console,
           sent := s.sent ++ [.consoleLeds p (match s.focus.channel with
             | none => 0
             | some c => (s.link c).leds.setWidth 8)] } ∧
         t.keyPort p = ⟨.active, []⟩ ∧ t.keyPort q = s.keyPort q ∧ t.console.ptr = s.console.ptr) ∧
       (∃ t, exec (.keyboardPortAttach p false) s = .next t ∧ t = { s with console := t.console } ∧
         t.keyPort p = ⟨.rejected, (s.keyPort p).last⟩ ∧ t.keyPort q = s.keyPort q ∧
         t.console.ptr = s.console.ptr))) ∧
  (∀ (p q : Port) (s : State), q ≠ p → KeyTableSorted s → CountsCanonical s →
     ((s.keyPort p).state = .absent → exec (.keyboardPortDetach p) s = .next s) ∧
     ((s.keyPort p).state = .rejected → ∃ t, exec (.keyboardPortDetach p) s = .next t ∧
       t = { s with console := t.console } ∧ t.keyPort p = ⟨.absent, (s.keyPort p).last⟩ ∧
       t.keyPort q = s.keyPort q ∧ t.console.ptr = s.console.ptr) ∧
     ((s.keyPort p).state = .active → ∃ t, exec (.keyboardPortDetach p) s = .next t ∧
       t = { s with
         console := t.console, router := t.router, attention := t.attention, links := t.links,
         sent := t.sent } ∧
       t.keyPort p = ⟨.absent, []⟩ ∧ t.keyPort q = s.keyPort q ∧ t.console.ptr = s.console.ptr ∧
       t.router.entries = s.router.entries.filter (fun e => e.port != p) ∧
       (∀ c k, countOf k (t.counts c) = countOf k (s.counts c) -
         s.router.entries.countP (fun e =>
           e.port == p && e.target == .channel c (some k) .delivered)) ∧
       (∀ c, (t.link c).reserved = (s.link c).reserved -
         s.router.entries.countP (fun e => e.port == p && (match e.target with
           | .channel d (some _) .queued => d == c
           | _ => false))) ∧
       ((∀ e ∈ s.router.entries, e.port = p → e.target ≠ .pendingTap) →
         t.attention = s.attention) ∧
       (∀ k r, s.attention = .tapDown k r →
         (∃ e ∈ s.router.entries, e.port = p ∧ e.target = .pendingTap) →
         t.attention = .tapUp k r s.tables.desk.tapWindow)))

/-- R25, R26: which reports are held, and that a held report changes nothing but latches ROLLOVER; the events of an accepted
one, key-ups in ascending code and then key-downs in ascending code, each taken to its end before the next; an equal report
produces none. That nothing else is taken between two events of one report is the model's choice (log 27). -/
def Obligations.KeyboardReports : Prop :=
  (∀ (p : Port) (r : KeyboardBytes) (s : State) (slots : List Nat),
     slots = [r.slot1.toNat, r.slot2.toNat, r.slot3.toNat, r.slot4.toNat, r.slot5.toNat,
       r.slot6.toNat] → (s.keyPort p).state = .active →
     ((∃ k ∈ slots, k = 1 ∨ k = 2 ∨ k = 3) ∨ ¬(slots.filter (· != 0)).Nodup ∨
         (∃ k ∈ slots, ¬(k = 0 ∨ (1 ≤ k ∧ k ≤ 3) ∨ (4 ≤ k ∧ k ≤ 164))) →
       ∃ t, exec (.keyboardReport p r) s = .next t ∧
         t = { s with mgmt := t.mgmt, sent := t.sent } ∧
         t.mgmt = { s.mgmt with
           latch := addEvent s.mgmt.latch .rollover
           alertOutstanding := t.mgmt.alertOutstanding } ∧
         ∀ c, inputReports c (newSent s t) = []) ∧
     ((slots.filter (· != 0)).Nodup → (∀ k ∈ slots, k = 0 ∨ (4 ≤ k ∧ k ≤ 164)) →
       ∃ t, exec (.keyboardReport p r) s = .next t ∧
         (t.keyPort p).state = .active ∧ (t.keyPort p).last.Pairwise (· < ·) ∧
         ∀ k, k ∈ (t.keyPort p).last ↔
           (k ∈ slots ∧ k ≠ 0) ∨ (224 ≤ k ∧ k ≤ 231 ∧ r.modifiers.getLsbD (k - 224) = true))) ∧
  (∀ (p : Port) (r : KeyboardBytes) (s : State) (ups downs : List Code),
     (s.keyPort p).state = .active → reportHeld r = false →
     ups.Pairwise (· < ·) → downs.Pairwise (· < ·) → (s.keyPort p).last.Pairwise (· < ·) →
     (∀ k, k ∈ ups ↔ k ∈ (s.keyPort p).last ∧ k ∉ reportCodes r) →
     (∀ k, k ∈ downs ↔ k ∈ reportCodes r ∧ k ∉ (s.keyPort p).last) →
     ∃ u, u = downs.foldl (fun a k => keyDown p k a) (ups.foldl (fun a k => keyUp p k a) s) ∧
       exec (.keyboardReport p r) s = .next (u.setKeyPort p ⟨.active, reportCodes r⟩) ∧
       (reportCodes r = (s.keyPort p).last → exec (.keyboardReport p r) s = .next s))

/-- R12, R13, R29, R33: the routing of a key-down that the Matcher declines, over any state: its entry, and the fate of the
press in every state of the focus channel. With it, a report that adds one key to those its port holds is that key-down, and
is routed so in IDLE where the key is not the attention key and no CHORD entry matches. -/
def Obligations.TypedKey : Prop :=
  (∀ (p : Port) (k : Code) (s t : State), t = routeKey p k s → ∃ g,
    (∀ e, e ∈ t.router.entries ↔
      e = ⟨p, k, g⟩ ∨ e ∈ s.router.entries ∧ ¬(e.port = p ∧ e.code = k)) ∧
    (s.focus.channel = none →
      g = .consumed ∧ t = { s with router := t.router } ∧ t.router.counts = s.router.counts) ∧
    (∀ c, s.focus.channel = some c → s.translate c k = none →
      g = (if (s.link c).state = .detached then .consumed else .channel c none .delivered) ∧
      t = { s with router := t.router } ∧ t.router.counts = s.router.counts) ∧
    (∀ c u, s.focus.channel = some c → s.translate c k = some u →
      (s.deliverable c = true →
        g = .channel c (some u) .delivered ∧ t = { s with router := t.router, sent := t.sent } ∧
        t.counts c = countUp u (s.counts c) ∧ (∀ d, d ≠ c → t.counts d = s.counts d) ∧
        newSent s t = if countOf u (s.counts c) = 0 then
          [.report c .keyboard (keyboardReportBytes (t.pressedSet c))] else []) ∧
      ((s.link c).state = .waking ∨
          (s.link c).state = .active ∧ (s.serves c = true ∨ (s.link c).queue ≠ []) →
        t.router.counts = s.router.counts ∧
        (2 + (s.link c).queue.length + (s.link c).reserved ≤ 32 →
          g = .channel c (some u) .queued ∧ t = { s with router := t.router, links := t.links } ∧
          t.link c = { s.link c with
            queue := (s.link c).queue ++ [.keyDown p k u true]
            reserved := (s.link c).reserved + 1 } ∧ ∀ d, d ≠ c → t.link d = s.link d) ∧
        (32 < 2 + (s.link c).queue.length + (s.link c).reserved →
          g = .consumed ∧ t = { s with router := t.router, mgmt := t.mgmt, sent := t.sent } ∧
          hasEvent t.mgmt.latch .holdOverflow = true)) ∧
      ((s.link c).state = .suspended → (s.chanRec c).wakeOnInput = true →
        (s.link c).permission = true → 2 + (s.link c).queue.length + (s.link c).reserved ≤ 32 →
        g = .channel c (some u) .queued ∧ t.router.counts = s.router.counts ∧
        t = { s with
          router := t.router, links := t.links, sent := s.sent ++ [.wakeSignal c] } ∧
        t.link c = { s.link c with
          state := .waking, window := some (s.chanRec c).wakeWindow, tries := 1,
          queue := (s.link c).queue ++ [.keyDown p k u true],
          reserved := (s.link c).reserved + 1 } ∧
        ∀ d, d ≠ c → t.link d = s.link d) ∧
      ((s.link c).state = .suspended → (s.chanRec c).wakeOnInput = true →
        (s.link c).permission = true → 32 < 2 + (s.link c).queue.length + (s.link c).reserved →
        g = .consumed ∧ t.router.counts = s.router.counts ∧
        t = { s with router := t.router, links := t.links, mgmt := t.mgmt, sent := t.sent } ∧
        hasEvent t.mgmt.latch .holdOverflow = true ∧ Sent.wakeSignal c ∈ newSent s t ∧
        t.link c = { s.link c with
          state := .waking, window := some (s.chanRec c).wakeWindow, tries := 1 } ∧
        ∀ d, d ≠ c → t.link d = s.link d) ∧
      ((s.link c).state = .suspended → (s.chanRec c).wakeOnInput = true →
        (s.link c).permission = false →
        g = .consumed ∧ t = { s with router := t.router, mgmt := t.mgmt, sent := t.sent } ∧
        t.router.counts = s.router.counts ∧ hasEvent t.mgmt.latch .wakeDenied = true) ∧
      ((s.link c).state = .detached ∨
          (s.link c).state = .suspended ∧ (s.chanRec c).wakeOnInput = false →
        g = .consumed ∧ t = { s with router := t.router } ∧
        t.router.counts = s.router.counts))) ∧
  (∀ (p : Port) (k : Code) (r : KeyboardBytes) (s : State), (s.keyPort p).state = .active →
    reportHeld r = false → k ∉ (s.keyPort p).last →
    (∀ j, j ∈ reportCodes r ↔ j = k ∨ j ∈ (s.keyPort p).last) →
    exec (.keyboardReport p r) s =
      .next ((keyDown p k s).setKeyPort p ⟨.active, reportCodes r⟩) ∧
    (s.attention = .idle → k ≠ s.tables.desk.attentionCode → s.findHotkey .chord p k = none →
      exec (.keyboardReport p r) s =
        .next ((routeKey p k s).setKeyPort p ⟨.active, reportCodes r⟩)))

/-- R14, R15, R34, R51: the key-up of a console key, over any state, by the target and state of its entry; one without an
entry changes nothing. A report that drops one key of those its port holds is that key-up. -/
def Obligations.ReleasedKey : Prop :=
  (∀ (p : Port) (k : Code) (s : State),
    findEntry p k s.router.entries = none → keyUp p k s = s) ∧
  (∀ (p : Port) (k : Code) (g : KeyTarget) (s t : State),
    findEntry p k s.router.entries = some ⟨p, k, g⟩ → t = keyUp p k s →
    t.router.entries = s.router.entries.filter (fun e => !(e.port == p && e.code == k)) ∧
    (g = .pendingTap → t.router.counts = s.router.counts ∧ t = { s with
      router := t.router
      attention := match s.attention with
        | .tapDown j q => .tapUp j q s.tables.desk.tapWindow
        | other => other }) ∧
    (g = .consumed ∨ (∃ c st, g = .channel c none st) →
      t = { s with router := t.router } ∧ t.router.counts = s.router.counts) ∧
    (∀ c u, g = .channel c (some u) .queued →
      t = { s with router := t.router, links := t.links } ∧
      t.router.counts = s.router.counts ∧
      t.link c = { s.link c with
        queue := (s.link c).queue.map (HoldItem.forgetKey p k) ++ [.keyUp p k u false],
        reserved := (s.link c).reserved - 1 } ∧
      ∀ d, d ≠ c → t.link d = s.link d) ∧
    (∀ c u, g = .channel c (some u) .delivered →
      t = { s with router := t.router, links := t.links, sent := t.sent } ∧
      t.counts c = countDown u (s.counts c) ∧ (∀ d, d ≠ c → t.counts d = s.counts d) ∧
      (s.deliverable c = true → t.links = s.links ∧
        newSent s t = if countOf u (s.counts c) = 1 then
          [.report c .keyboard (keyboardReportBytes (t.pressedSet c))] else []) ∧
      (s.deliverable c = false → t.sent = s.sent ∧
        (∀ d, d ≠ c → t.link d = s.link d) ∧
        t.link c = if (s.link c).state = .active ∧ ((s.link c).queue = [] ∨
            1 + (s.link c).queue.length + (s.link c).reserved ≤ 32) then
          { s.link c with queue := (s.link c).queue ++ [.keyUp p k u true] }
          else s.link c))) ∧
  (∀ (p : Port) (k : Code) (r : KeyboardBytes) (s : State), (s.keyPort p).state = .active →
    reportHeld r = false → k ∈ (s.keyPort p).last → (s.keyPort p).last.Nodup →
    (∀ j, j ∈ reportCodes r ↔ j ∈ (s.keyPort p).last ∧ j ≠ k) →
    exec (.keyboardReport p r) s =
      .next ((keyUp p k s).setKeyPort p ⟨.active, reportCodes r⟩))

/-- R11, R28, R38: every step keeps the whole discipline of held keys and buttons; so no queue passes its 32 places, and a
code is in the pressed set exactly when a DELIVERED entry or the player keeps it down. -/
def Obligations.KeysSoundKept : Prop :=
  ∀ s t : State, KeysSound s → step s = .next t → KeysSound t ∧
    (∀ c, (t.link c).queue.length + (t.link c).reserved ≤ 32) ∧
    ∀ c k, k ∈ t.pressedSet c ↔
      (∃ p j, ⟨p, j, .channel c (some k) .delivered⟩ ∈ t.router.entries) ∨
      ∃ pl, t.player = some pl ∧ pl.chan = c ∧ k ∈ pl.pressed

/-- R128: every step keeps a channel's button state equal to the buttons whose entries target it with state DELIVERED, with
what a drain of its queue rests on. -/
def Obligations.ButtonsSoundKept : Prop :=
  ∀ s t : State, KeysSound s → ButtonsSound s → step s = .next t → ButtonsSound t

/-- R40: at the end of every step every channel's pressed set fits a keyboard report, with at most twelve non-modifier codes,
and what that rests on: the sizes of the console reports (R25, R26), the kinds of code of keymaps and macros (R31, R85) and
the code limit of the player (R39). -/
def Obligations.PressedSetsFitKept : Prop :=
  ∀ s t : State, KeysSound s → CodesSound s → step s = .next t → CodesSound t

/-- R40: a channel keyboard report has 14 bytes: the modifiers of the pressed set, a zero, and its other codes in
ascending order followed by zeros, as long as they are twelve at most. -/
def Obligations.KeyboardReportComposition : Prop :=
  ∀ ks : List Code, ks.Pairwise (· < ·) → (∀ k ∈ ks, isOrdinary k = true ∨ isModifier k = true) →
    (ks.filter (fun k => isOrdinary k)).length ≤ 12 →
    ∃ m slots, keyboardReportBytes ks = m :: 0 :: slots ∧ slots.length = 12 ∧
      (∀ i, i < 8 → m.getLsbD i = ks.contains (224 + i)) ∧
      slots.map (·.toNat) = ks.filter (fun k => isOrdinary k) ++
        List.replicate (12 - (ks.filter (fun k => isOrdinary k)).length) 0

/-! ## Hotkeys and the attention sequence (chapter 03) -/

/-- R47 with R30: when an entry matches a key-down, for a held set that has bit i for modifier 224 + i. -/
def Obligations.HotkeyMatch : Prop :=
  ∀ (h : HotkeyEntry) (p : Port) (k : Code) (s : State),
    (∀ i, i < 8 →
      (s.heldModifiers.getLsbD i = true ↔ ∃ e ∈ s.router.entries, e.code = 224 + i)) ∧
    (entryMatches h p k s.heldModifiers = true ↔
      h.enabled = true ∧ (h.port = .only p ∨ h.port = .any) ∧ h.trigger = k ∧
      (h.sideFold = false → ∀ i, i < 8 → h.mask.getLsbD i = true →
        s.heldModifiers.getLsbD i = h.compare.getLsbD i) ∧
      (h.sideFold = true → ∀ i, i < 4 → (h.mask.getLsbD i || h.mask.getLsbD (i + 4)) = true →
        (s.heldModifiers.getLsbD i || s.heldModifiers.getLsbD (i + 4)) =
          (h.compare.getLsbD i || h.compare.getLsbD (i + 4))))

/-- R48, R50, R51, R52, R54 with R57, over any state: the examination of a key-down, `taken q j v` saying that v is what a
key-down of j on port q makes of s, and that a report that adds that key to those its port holds leaves v. In IDLE the attention
key is withheld; another key dispatches the lowest-numbered matching CHORD entry and is consumed, and is routed where none
matches. In TAP_DOWN the release of the withheld key starts the tap window, and any key at all ends the sequence, a modifier, a
second key of the same port and the attention code on the other port among them. In TAP_UP the second tap arms it, and any
other key ends the sequence. The withheld key is routed, or the late tap delivered, before the new key, which goes to chord
matching. In ARMED a modifier key is routed, as no entry's trigger is one (R44), with the window running on, and any other key
ends the sequence and is consumed, with the action of the lowest-numbered matching ATTENTION entry or with a refusal. -/
def Obligations.KeyDownsExamined : Prop :=
  ∀ (s : State) (taken : Port → Code → State → Prop)
    (first : State → HotkeyKind → Port → Code → Fin 32 → Prop),
    (∀ q j v, taken q j v ↔ keyDown q j s = v ∧ ∀ r, (s.keyPort q).state = .active →
      reportHeld r = false → j ∉ (s.keyPort q).last →
      (∀ i, i ∈ reportCodes r ↔ i = j ∨ i ∈ (s.keyPort q).last) →
      exec (.keyboardReport q r) s = .next (v.setKeyPort q ⟨.active, reportCodes r⟩)) →
    (∀ u kind p k i, first u kind p k i ↔ ((nth u.tables.hotkeys i).kind = kind ∧
      entryMatches (nth u.tables.hotkeys i) p k u.heldModifiers = true ∧
      ∀ j, j < i → (nth u.tables.hotkeys j).kind ≠ kind ∨
        entryMatches (nth u.tables.hotkeys j) p k u.heldModifiers = false)) →
    (∀ p k, s.attention = .idle →
      (s.tables.desk.attentionCode = k → k ≠ 0 →
        taken p k ({ s with attention := .tapDown k p }.putKey p k .pendingTap)) ∧
      (s.tables.desk.attentionCode ≠ k ∨ s.tables.desk.attentionCode = 0 →
        (∀ i, first s .chord p k i →
          taken p k ((dispatchAction (nth s.tables.hotkeys i).action s).putKey p k .consumed)) ∧
        ((∀ i, ¬first s .chord p k i) → taken p k (routeKey p k s)))) ∧
    (∀ p k, s.attention = .tapDown k p →
      findEntry p k s.router.entries = some ⟨p, k, .pendingTap⟩ →
      keyUp p k s = { s with attention := .tapUp k p s.tables.desk.tapWindow }.dropKey p k) ∧
    (∀ p q k w, s.attention = .tapUp k p w →
      taken q k ({ s with attention := .armed s.tables.desk.armWindow }.putKey q k .consumed)) ∧
    (∀ p q k j u,
      (s.attention = .tapDown k p ∧ u = { routeKey p k s with attention := .idle }) ∨
        (∃ w, s.attention = .tapUp k p w ∧ j ≠ k ∧ u = { (match s.focus.channel with
          | none => s
          | some c => deliverTap c p k s) with attention := .idle }) →
      (∀ i, first u .chord q j i →
        taken q j ((dispatchAction (nth u.tables.hotkeys i).action u).putKey q j .consumed)) ∧
      ((∀ i, ¬first u .chord q j i) → taken q j (routeKey q j u))) ∧
    (∀ p k w, s.attention = .armed w → isModifier k = true →
      ((∀ i, (nth s.tables.hotkeys i).InRange) → ∀ i, ¬first s .chord p k i) ∧
      ((∀ i, ¬first s .chord p k i) →
        taken p k (routeKey p k s) ∧ (routeKey p k s).attention = .armed w)) ∧
    (∀ p k w u, s.attention = .armed w → isModifier k = false →
      u = { s with attention := .idle } →
      (∀ i, first s .attention p k i →
        taken p k ((dispatchAction (nth s.tables.hotkeys i).action u).putKey p k .consumed)) ∧
      ((∀ i, ¬first s .attention p k i) → ∃ t : State, taken p k (t.putKey p k .consumed) ∧
        t = { u with focus := t.focus, mgmt := t.mgmt, sent := t.sent } ∧
        t.focus = { s.focus with cue := some ⟨.refused, 0, s.tables.desk.cueVolume⟩ } ∧
        t.mgmt = { s.mgmt with
          latch := addEvent s.mgmt.latch .hotkeyRefused
          alertOutstanding := t.mgmt.alertOutstanding })) ∧
    (∀ p k g e, e ∈ (s.putKey p k g).router.entries ↔
      e = ⟨p, k, g⟩ ∨ e ∈ s.router.entries ∧ ¬(e.port = p ∧ e.code = k))

/-- R35, R53, R55: the late tap at the end of the tap window, in every state of the focus channel, and the end of the arm
window; where the window named does not run nothing happens (log 7). -/
def Obligations.WindowExpiries : Prop :=
  (∀ s : State,
     ((∀ k p w, s.attention ≠ .tapUp k p w) → exec .tapWindowExpiry s = .next s) ∧
     (∀ k p w, s.attention = .tapUp k p w → ∃ t, exec .tapWindowExpiry s = .next t ∧
       t.attention = .idle ∧ t.router.entries = s.router.entries ∧
       (s.focus.channel = none → t = { s with attention := .idle }) ∧
       (∀ c, s.focus.channel = some c → s.translate c k = none →
         t = { s with attention := .idle }) ∧
       (∀ c u, s.focus.channel = some c → s.translate c k = some u →
         ((s.link c).state = .active ∧ s.serves c = false ∧ (s.link c).queue = [] →
           CountsCanonical s →
           t = { s with attention := .idle, sent := t.sent } ∧
           newSent s t = if countOf u (s.counts c) = 0 then
             [.report c .keyboard (keyboardReportBytes ((countUp u (s.counts c)).map (·.1))),
              .report c .keyboard (keyboardReportBytes (s.pressedSet c))] else []) ∧
         ((s.link c).state = .waking ∨
             (s.link c).state = .active ∧ (s.serves c = true ∨ (s.link c).queue ≠ []) →
           2 + (s.link c).queue.length + (s.link c).reserved ≤ 32 →
           t = { s with attention := .idle, links := t.links } ∧
           t.link c = { s.link c with
             queue := (s.link c).queue ++ [.keyDown p k u false, .keyUp p k u false] } ∧
           ∀ d, d ≠ c → t.link d = s.link d) ∧
         ((s.link c).state = .suspended → (s.chanRec c).wakeOnInput = true →
           (s.link c).permission = true → 2 + (s.link c).queue.length + (s.link c).reserved ≤ 32 →
           t = { s with
             attention := .idle, links := t.links, sent := s.sent ++ [.wakeSignal c] } ∧
           t.link c = { s.link c with
             state := .waking, window := some (s.chanRec c).wakeWindow, tries := 1,
             queue := (s.link c).queue ++ [.keyDown p k u false, .keyUp p k u false] } ∧
           ∀ d, d ≠ c → t.link d = s.link d) ∧
         ((s.link c).state ≠ .detached → s.deliverable c = false →
           32 < 2 + (s.link c).queue.length + (s.link c).reserved →
           ((s.link c).state = .suspended → (s.chanRec c).wakeOnInput = true ∧
             (s.link c).permission = true) →
           (t.link c).queue = (s.link c).queue ∧ t.router.counts = s.router.counts ∧
           hasEvent t.mgmt.latch .holdOverflow = true) ∧
         ((s.link c).state = .suspended → (s.chanRec c).wakeOnInput = true →
           (s.link c).permission = false →
           t.links = s.links ∧ t.router.counts = s.router.counts ∧
           hasEvent t.mgmt.latch .wakeDenied = true) ∧
         ((s.link c).state = .detached ∨
             (s.link c).state = .suspended ∧ (s.chanRec c).wakeOnInput = false →
           t = { s with attention := .idle })))) ∧
  (∀ s : State,
     (∀ w, s.attention = .armed w →
       exec .armWindowExpiry s = .next { s with attention := .idle }) ∧
     ((∀ w, s.attention ≠ .armed w) → exec .armWindowExpiry s = .next s))

/-- R57, R58, R60 to R65: what the actions of a hotkey do, and when each is refused; an action that is refused, and no other,
sounds REFUSED and latches HOTKEY_REFUSED. NEXT and PREVIOUS are in the statement after this one. -/
def Obligations.ActionTable : Prop :=
  ∀ s : State,
    (∀ a r t, act a s = (r, t) → dispatchAction a s = if r = true then latch .hotkeyRefused { t with
      focus := { t.focus with cue := some ⟨.refused, 0, t.tables.desk.cueVolume⟩ } } else t) ∧
    (∀ c, (s.link c).state = .detached → act (.select (some c)) s = (true, s)) ∧
    (∀ c, (s.link c).state ≠ .detached → s.focus.channel = some c →
      act (.select (some c)) s = (false, s) ∧ act (.select none) s = (false, s)) ∧
    (∀ c, (s.link c).state ≠ .detached → s.focus.channel ≠ some c →
      act (.select (some c)) s = (false, changeFocus .hotkey c s)) ∧
    (s.focus.channel = none → act (.select none) s = (true, s) ∧ act (.wake none) s = (true, s) ∧
      ∀ m, act (.play m) s = (true, s)) ∧
    act .pin s = (false, { s with focus := { s.focus with
      pinned := !s.focus.pinned
      dwell := if s.focus.pinned then s.focus.dwell else none
      cue := some ⟨.switch, 0, s.tables.desk.cueVolume⟩ } }) ∧
    act .glideToggle s = (false, { s with focus := { s.focus with
      glideEnabled := !s.focus.glideEnabled
      dwell := if s.focus.glideEnabled then none else s.focus.dwell
      cue := some ⟨.switch, 0, s.tables.desk.cueVolume⟩ } }) ∧
    (∀ a c, a = some c ∨ (a = none ∧ s.focus.channel = some c) →
      ((s.link c).state = .detached → act (.wake a) s = (true, s)) ∧
      ((s.link c).state = .active ∨ (s.link c).state = .waking → act (.wake a) s = (false, s)) ∧
      ((s.link c).state = .suspended → (s.link c).permission = true →
        act (.wake a) s = (false, requestCue .wait (signalWake c 1 s))) ∧
      ((s.link c).state = .suspended → (s.link c).permission = false →
        act (.wake a) s = (true, latch .wakeDenied s))) ∧
    ((∀ c, (s.link c).state ≠ .suspended ∨ (s.link c).permission = false) →
      act .wakeAll s = (true, s)) ∧
    ((∃ c, (s.link c).state = .suspended ∧ (s.link c).permission = true) →
      ∃ t, act .wakeAll s = (false, t) ∧ t = { s with
        links := t.links, focus := { s.focus with
          cue := some ⟨.wait, 0, s.tables.desk.cueVolume⟩ }, sent := t.sent } ∧
      ∀ c, t.link c = if (s.link c).state = .suspended ∧ (s.link c).permission = true then
        { s.link c with state := .waking, window := some (s.chanRec c).wakeWindow, tries := 1 }
        else s.link c) ∧
    (∀ p : Fin 16,
      ((∃ m l, nth (nth s.tables.presets p) m = some l ∧ s.layoutOk m l = false) → ∃ t,
        act (.preset p) s = (true, t) ∧ t = { s with mgmt := t.mgmt, sent := t.sent } ∧
        ∀ g, hasEvent t.mgmt.latch g = true ↔ hasEvent s.mgmt.latch g = true ∨
          (g = .layoutRefused ∧ ∃ m l, nth (nth s.tables.presets p) m = some l ∧
            geometryOk s.tables m l = false) ∨
          (g = .mixRefused ∧ ∃ m l, nth (nth s.tables.presets p) m = some l ∧
            mixOk s.tables s.mgmt.policy l = false)) ∧
      ((∀ m l, nth (nth s.tables.presets p) m = some l → s.layoutOk m l = true) → ∃ t,
        act (.preset p) s = (false, t) ∧
        t = { s with display := t.display, mgmt := t.mgmt, sent := t.sent } ∧
        (∀ g, hasEvent t.mgmt.latch g = true ↔ hasEvent s.mgmt.latch g = true ∨
          (g = .layoutApplied ∧ ∃ m l, nth (nth s.tables.presets p) m = some l ∧
            s.live m = false)) ∧
        t.display.heads = s.display.heads ∧
        ∀ m, t.monitorRun m = match nth (nth s.tables.presets p) m with
          | none => s.monitorRun m
          | some l =>
            if s.live m = true then { s.monitorRun m with waiting := some (l, .preset p) }
            else { s.monitorRun m with active := l, activeOrigin := .preset p, waiting := none })) ∧
    (∀ m c pl, s.focus.channel = some c → s.player = some pl → act (.play m) s = (true, s)) ∧
    (∀ (m : Fin 8) (c : Chan) (start : Bool → State → State),
      s.focus.channel = some c → s.player = none →
      (∀ b u, start b u = { u with
        skipped := 0, player := some {
          playing := b, number := m, chan := c, copy := nth s.tables.macros m, index := 1,
          tapHalf := none, wait := (nth s.tables.macros m).interval, pressed := [] } }) →
      ((s.link c).state = .active → act (.play m) s = (false, start true s)) ∧
      ((s.link c).state = .waking → act (.play m) s = (false, start false s)) ∧
      ((s.link c).state = .suspended → (s.link c).permission = true →
        act (.play m) s = (false, start false (signalWake c 1 s))) ∧
      ((s.link c).state = .suspended → (s.link c).permission = false →
        act (.play m) s = (false, latch .macroAborted (latch .wakeDenied s))) ∧
      ((s.link c).state = .detached → act (.play m) s = (false, latch .macroAborted s))) ∧
    (s.mgmt.confirm = none → act .confirm s = (true, s)) ∧
    (∀ cf, s.mgmt.confirm = some cf → act .confirm s = (false, confirmPending cf s)) ∧
    (s.mgmt.confirm = none → s.player = none → act .cancel s = (true, s)) ∧
    (∀ cf, s.mgmt.confirm = some cf → s.player = none →
      act .cancel s = (false, declinePending cf s)) ∧
    (∀ pl, s.mgmt.confirm = none → s.player = some pl →
      act .cancel s = (false, endMacro .macroAborted s)) ∧
    (∀ cf pl, s.mgmt.confirm = some cf → s.player = some pl →
      act .cancel s = (false, endMacro .macroAborted (declinePending cf s)))

/-- R59: NEXT and PREVIOUS take the first member of the cycle set in the direction of the scan, and change nothing when it
is the focus channel. -/
def Obligations.CycleScan : Prop :=
  ∀ s : State,
    ((∀ c, (s.link c).state = .detached ∨ (s.chanRec c).inCycle = false) →
      act .next s = (true, s) ∧ act .previous s = (true, s)) ∧
    (∀ n, (s.link n).state ≠ .detached → (s.chanRec n).inCycle = true →
      (∀ f, s.focus.channel = some f →
        ((∀ m, (s.link m).state ≠ .detached → (s.chanRec m).inCycle = true →
            (n.val + 7 - f.val) % 8 ≤ (m.val + 7 - f.val) % 8) →
          act .next s = (false, if n = f then s else changeFocus .hotkey n s)) ∧
        ((∀ m, (s.link m).state ≠ .detached → (s.chanRec m).inCycle = true →
            (f.val + 7 - n.val) % 8 ≤ (f.val + 7 - m.val) % 8) →
          act .previous s = (false, if n = f then s else changeFocus .hotkey n s))) ∧
      (s.focus.channel = none →
        ((∀ m, (s.link m).state ≠ .detached → (s.chanRec m).inCycle = true → n ≤ m) →
          act .next s = (false, changeFocus .hotkey n s)) ∧
        ((∀ m, (s.link m).state ≠ .detached → (s.chanRec m).inCycle = true → m ≤ n) →
          act .previous s = (false, changeFocus .hotkey n s))))

/-! ## Focus (chapter 04) -/

/-- R69: the outcome of a request, its conditions tested in order, and that a refused or unchanged one leaves the focus
record and the cue. -/
def Obligations.FocusJudgement : Prop :=
  ∀ (cause : Cause) (n : Chan) (s : State),
    ((s.link n).state = .detached → judgeFocus cause n s = .refusedDetached) ∧
    ((s.link n).state ≠ .detached →
      (s.focus.channel = some n → judgeFocus cause n s = .unchanged) ∧
      (s.focus.channel ≠ some n →
        (cause ≠ .glide → judgeFocus cause n s = .changed) ∧
        (cause = .glide →
          (s.focus.pinned = true → judgeFocus cause n s = .refusedPinned) ∧
          (s.focus.pinned = false →
            ((∃ f, s.focus.channel = some f ∧ (s.chanRec f).pointerMode = .relative) →
              judgeFocus cause n s = .refusedCaptive) ∧
            ((∀ f, s.focus.channel = some f → (s.chanRec f).pointerMode = .absolute) →
              ((∃ o, s.focus.channel = some o ∧
                  s.mgmt.policy.glides (s.chanRec o).group (s.chanRec n).group = false) →
                judgeFocus cause n s = .refusedPolicy) ∧
              ((∀ o, s.focus.channel = some o →
                  s.mgmt.policy.glides (s.chanRec o).group (s.chanRec n).group = true) →
                judgeFocus cause n s = .changed)))))) ∧
    (judgeFocus cause n s = .changed → requestFocus cause n s = (.changed, changeFocus cause n s)) ∧
    (judgeFocus cause n s ≠ .changed → requestFocus cause n s = (judgeFocus cause n s, s)) ∧
    (judgeFocus .glide n s ≠ .changed → (glideRequest n s).focus = s.focus)

/-- R70 and R71: what a change of focus does to the focus record, to the modifier entries of the old channel and to every
other entry. R75, R144: a change with cause HOTKEY or MANAGEMENT that ends captive takes the owner afresh after that (log
23). R69 and R177 on a management SELECT. -/
def Obligations.FocusChanges : Prop :=
  (∀ (cause : Cause) (n : Chan) (s t : State), KeyTableSorted s → s.focus.channel ≠ some n →
    (s.link n).state ≠ .detached → t = focusSteps cause n s →
    t = { s with
      router := t.router, links := t.links, focus := t.focus, mgmt := t.mgmt, sent := t.sent } ∧
    t.focus = { s.focus with
      channel := some n
      dwell := none
      cue := some ⟨if (s.link n).state = .suspended ∧ (s.link n).permission = true ∧
          (s.chanRec n).wakeOnFocus = true then .wait else .switch, 0,
        s.tables.desk.cueVolume⟩ } ∧
    hasEvent t.mgmt.latch .focusChanged = true ∧
    ((t.link n).state = if (s.link n).state = .suspended ∧ (s.link n).permission = true ∧
      (s.chanRec n).wakeOnFocus = true then .waking else (s.link n).state) ∧
    ((s.link n).state = .suspended → (s.link n).permission = false →
      (s.chanRec n).wakeOnFocus = true → hasEvent t.mgmt.latch .wakeDenied = true) ∧
    (∀ p, (s.keyPort p).state = .active →
      .consoleLeds p ((s.link n).leds.setWidth 8) ∈ newSent s t) ∧
    t.router.entries.map (fun e => (e.port, e.code)) =
      s.router.entries.map (fun e => (e.port, e.code)) ∧
    (∀ e ∈ s.router.entries,
      (isModifier e.code = false ∨ (∀ o, s.focus.channel = some o → e.target.isChannel o = false) →
        e ∈ t.router.entries)) ∧
    (∀ o p k tr st, s.focus.channel = some o → isModifier k = true →
      ⟨p, k, .channel o tr st⟩ ∈ s.router.entries →
      (cause ≠ .glide ∨ (s.chanRec o).group ≠ (s.chanRec n).group ∨ st = .queued →
        ⟨p, k, .consumed⟩ ∈ t.router.entries) ∧
      (cause = .glide → (s.chanRec o).group = (s.chanRec n).group → st = .delivered →
        (s.translate n k = none → ⟨p, k, .channel n none .delivered⟩ ∈ t.router.entries) ∧
        (∀ u, s.translate n k = some u →
          (s.deliverable n = true →
            ⟨p, k, .channel n (some u) .delivered⟩ ∈ t.router.entries) ∧
          (s.deliverable n = false →
            ⟨p, k, .channel n (some u) .queued⟩ ∈ t.router.entries ∨
            ⟨p, k, .consumed⟩ ∈ t.router.entries ∧
              hasEvent t.mgmt.latch .holdOverflow = true))))) ∧
  (∀ (cause : Cause) (n : Chan) (s : State),
    (s.captive = false ∨ (s.chanRec n).pointerMode = .relative →
      changeFocus cause n s = focusSteps cause n s) ∧
    (s.captive = true → (s.chanRec n).pointerMode = .absolute →
      changeFocus cause n s = ownerAndPosition (focusSteps cause n s))) ∧
  (∀ (c : Chan) (f : Frame) (s : State), Accepted .select c f s →
    (byteAt f.payload 0 = 0 ∨ 8 < byteAt f.payload 0 →
      exec (.select c f) s = .next (answer .select c f ⟨.invalid, [], none⟩ s s)) ∧
    (∀ n : Chan, f.payload = [byteOf (n.val + 1)] →
      ((s.link n).state = .detached →
        exec (.select c f) s = .next (answer .select c f ⟨.invalid, [8], none⟩ s s)) ∧
      ((s.link n).state ≠ .detached → s.focus.channel = some n →
        exec (.select c f) s = .next (answer .select c f ⟨.ok, [2], none⟩ s s)) ∧
      ((s.link n).state ≠ .detached → s.focus.channel ≠ some n → ∃ u,
        exec (.select c f) s = .next (answer .select c f ⟨.ok, [1], none⟩ s u) ∧
        u = changeFocus .management n s ∧ hasEvent u.mgmt.latch .focusChanged = true ∧
        (s.captive = false ∨ s.tables.desk.dwell ≠ 0 → u.focus.channel = some n ∧
          u.focus.pinned = s.focus.pinned ∧ u.focus.glideEnabled = s.focus.glideEnabled))))

/-- R68, R69, R74: focus never moves onto a DETACHED channel, a pin is overridden only by a hotkey, a management SELECT or a
reset, and a glide stays within the GLIDE flags. The resets set the focus without R69; an UNKNOWN_COMMAND is left out
because its operand may spell one (log 24). -/
def Obligations.FocusMovesOnlyWhereAllowed : Prop :=
  ∀ (i : Instr) (s t : State), exec i s = .next t → t.focus.channel ≠ s.focus.channel →
    resetsFocus i = false → ∃ n, t.focus.channel = some n ∧ (s.link n).state ≠ .detached ∧
      (s.focus.pinned = true → mayMovePinned i = true) ∧
      (glideOnly i = true → ∀ o, s.focus.channel = some o →
        s.mgmt.policy.glides (s.chanRec o).group (s.chanRec n).group = true)

/-- R78, R80, R81: the lamps, the pulse, the four cues and the end of a cue's element; with no cue playing
no element ends (log 7). -/
def Obligations.CueAndLamps : Prop :=
  ∀ s : State,
    exec .sleepPulse s = .next { s with focus := { s.focus with pulse := !s.focus.pulse } } ∧
    (∀ c, s.lampLit c = match (s.link c).state with
      | .detached => false
      | .active => true
      | .suspended => s.focus.pulse
      | .waking => s.focus.pulse) ∧
    (s.focus.cue = none → exec .cueElementEnd s = .next s ∧ s.tone = none) ∧
    (∀ q e v, s.focus.cue = some ⟨q, e, v⟩ →
      exec .cueElementEnd s = .next { s with focus := { s.focus with
        cue := if e + 1 < (match q with
          | .switch => 1
          | .refused => 3
          | .wait => 5
          | .fail => 1) then some ⟨q, e + 1, v⟩ else none } } ∧
      (v = 0 → s.tone = none) ∧
      (v ≠ 0 → s.tone = match q, e with
        | .switch, 0 => some (1600, v)
        | .refused, 0 => some (400, v)
        | .refused, 2 => some (400, v)
        | .wait, 0 => some (800, v)
        | .wait, 2 => some (1000, v)
        | .wait, 4 => some (1200, v)
        | .fail, 0 => some (300, v)
        | _, _ => none)) ∧
    (∀ q, requestCue q s = { s with focus := { s.focus with
      cue := some ⟨q, 0, s.tables.desk.cueVolume⟩ } })

/-! ## Macros (chapter 05) -/

/-- R88 with R177: a PLAY_MACRO in every state of the player and of the channel's link, and one that names no macro or no
channel. A start that is not carried out
keeps the count of skipped steps (log 16). -/
def Obligations.MacroStart : Prop :=
  (∀ (c : Chan) (f : Frame) (s : State), Accepted .playMacro c f s →
    byteAt f.payload 0 = 0 ∨ 8 < byteAt f.payload 0 ∨ byteAt f.payload 1 = 0 ∨
      8 < byteAt f.payload 1 →
    exec (.playMacro c f) s = .next (answer .playMacro c f ⟨.invalid, [], none⟩ s s)) ∧
  (∀ (c n : Chan) (m : Fin 8) (f : Frame) (s : State), Accepted .playMacro c f s →
    f.payload = [byteOf (m.val + 1), byteOf (n.val + 1)] →
    (s.player ≠ none →
      exec (.playMacro c f) s = .next (answer .playMacro c f ⟨.busy, [], none⟩ s s)) ∧
    (∀ start : Bool → Player, s.player = none →
      (∀ b, start b = {
        playing := b, number := m, chan := n, copy := nth s.tables.macros m, index := 1,
        tapHalf := none, wait := (nth s.tables.macros m).interval, pressed := [] }) →
      ((s.link n).state = .active → exec (.playMacro c f) s =
        .next (answer .playMacro c f ⟨.ok, [4], none⟩ s { s with
          player := some (start true), skipped := 0 })) ∧
      ((s.link n).state = .waking → exec (.playMacro c f) s =
        .next (answer .playMacro c f ⟨.ok, [7], none⟩ s { s with
          player := some (start false), skipped := 0 })) ∧
      ((s.link n).state = .suspended → (s.link n).permission = true →
        ∃ u, exec (.playMacro c f) s = .next (answer .playMacro c f ⟨.ok, [7], none⟩ s u) ∧
          u = { s with
            player := some (start false), skipped := 0, links := u.links,
            sent := s.sent ++ [.wakeSignal n] } ∧
          u.link n = { s.link n with
            state := .waking, window := some (s.chanRec n).wakeWindow, tries := 1 } ∧
          ∀ d, d ≠ n → u.link d = s.link d) ∧
      ((s.link n).state = .suspended → (s.link n).permission = false → exec (.playMacro c f) s =
        .next (answer .playMacro c f ⟨.invalid, [11], none⟩ s
          (latch .macroAborted (latch .wakeDenied s)))) ∧
      ((s.link n).state = .detached → exec (.playMacro c f) s =
        .next (answer .playMacro c f ⟨.invalid, [11], none⟩ s (latch .macroAborted s)))))

/-- R89 to R91: what a step expiry does at each kind of step, the next wait and index, and the end of the macro after its
last step; with the presses and releases of R39: the macro pressed set, the counts, the report where the pressed set
changed, and the limit of twelve non-modifier codes. After a PAUSE 0 the next step is left to the next MACRO_STEP_EXPIRY by
the model's choice (log 28). Without a running step timer nothing happens (log 7). -/
def Obligations.MacroSteps : Prop :=
  ∀ s : State,
    ((∀ pl, s.player = some pl → pl.playing = false) → exec .macroStepExpiry s = .next s) ∧
    (∀ (pl : Player) (last : Bool), s.player = some pl → pl.playing = true →
      1 ≤ pl.index → pl.index ≤ pl.copy.steps.length →
      last = decide (pl.index = pl.copy.steps.length) →
      (∀ k q u, pl.tapHalf = some k → u = playerRelease pl k s → u.player = some q →
        exec .macroStepExpiry s = .next (if last = true then
            endMacro .macroDone { u with player := some { q with tapHalf := none } }
          else { u with player := some { q with
            tapHalf := none, wait := pl.copy.interval, index := pl.index + 1 } })) ∧
      (∀ st, pl.tapHalf = none → pl.copy.steps[pl.index - 1]? = some st →
        (∀ k q u, st = .press k → playerPress pl k s = (false, u) → u.player = some q →
          exec .macroStepExpiry s = .next (if last = true then endMacro .macroDone u
            else { u with player := some { q with
              wait := pl.copy.interval, index := pl.index + 1 } })) ∧
        (∀ k, st = .press k ∨ st = .tap k → (playerPress pl k s).1 = true →
          exec .macroStepExpiry s = .next (if last = true then
              endMacro .macroDone { s with skipped := s.skipped + 1 }
            else { s with skipped := s.skipped + 1, player := some { pl with
              wait := pl.copy.interval, index := pl.index + 1 } })) ∧
        (∀ k q u, st = .release k → u = playerRelease pl k s → u.player = some q →
          exec .macroStepExpiry s = .next (if last = true then endMacro .macroDone u
            else { u with player := some { q with
              wait := pl.copy.interval, index := pl.index + 1 } })) ∧
        (∀ k q u, st = .tap k → playerPress pl k s = (false, u) → u.player = some q →
          exec .macroStepExpiry s = .next { u with player := some { q with
            tapHalf := some k, wait := pl.copy.interval, index := pl.index } }) ∧
        (∀ n, st = .pause n →
          exec .macroStepExpiry s = .next (if last = true then endMacro .macroDone s
            else { s with player := some { pl with wait := n, index := pl.index + 1 } })))) ∧
    (∀ (pl : Player) (k : Code) (c : Chan), s.player = some pl → c = pl.chan →
      (s.link c).state = .active →
      (k ∈ pl.pressed → playerPress pl k s = (false, s)) ∧
      (k ∉ pl.pressed → isModifier k = false → k ∉ s.pressedSet c →
        12 ≤ ((s.pressedSet c).filter fun j => !isModifier j).length →
        playerPress pl k s = (true, s)) ∧
      (k ∉ pl.pressed → (isModifier k = true ∨ k ∈ s.pressedSet c ∨
          ((s.pressedSet c).filter fun j => !isModifier j).length < 12) →
        ∃ t q, playerPress pl k s = (false, t) ∧
          t = { s with player := some q, router := t.router, sent := t.sent } ∧
          q = { pl with pressed := q.pressed } ∧ (∀ j, j ∈ q.pressed ↔ j = k ∨ j ∈ pl.pressed) ∧
          t.router.entries = s.router.entries ∧ t.counts c = countUp k (s.counts c) ∧
          (∀ d, d ≠ c → t.counts d = s.counts d) ∧
          newSent s t = if countOf k (s.counts c) = 0 then
            [.report c .keyboard (keyboardReportBytes (t.pressedSet c))] else []) ∧
      (k ∉ pl.pressed → playerRelease pl k s = s) ∧
      (k ∈ pl.pressed → ∃ t q, t = playerRelease pl k s ∧
        t = { s with player := some q, router := t.router, sent := t.sent } ∧
        q = { pl with pressed := q.pressed } ∧ (∀ j, j ∈ q.pressed ↔ j ≠ k ∧ j ∈ pl.pressed) ∧
        t.router.entries = s.router.entries ∧ t.counts c = countDown k (s.counts c) ∧
        (∀ d, d ≠ c → t.counts d = s.counts d) ∧
        newSent s t = if countOf k (s.counts c) = 1 then
          [.report c .keyboard (keyboardReportBytes (t.pressedSet c))] else []))

/-- R92: the ending of a macro on an ACTIVE channel, where the release report comes first and the drain follows, its items
head first (R17), and on a sleeping one, where nothing is sent. -/
def Obligations.MacroEnd : Prop :=
  ∀ (e : Event) (pl : Player) (s t : State), s.player = some pl → t = endMacro e s →
    t.player = none ∧ hasEvent t.mgmt.latch e = true ∧
    t = { s with
      router := t.router, links := t.links, pointer := t.pointer, player := none,
      mgmt := t.mgmt, sent := t.sent } ∧
    ((s.link pl.chan).state ≠ .active →
      t.links = s.links ∧ t.pointer = s.pointer ∧ t.router.entries = s.router.entries ∧
      t.counts pl.chan = pl.pressed.foldl (fun m k => countDown k m) (s.counts pl.chan) ∧
      (∀ d, d ≠ pl.chan → t.counts d = s.counts d) ∧ inputReports pl.chan (newSent s t) = []) ∧
    ((s.link pl.chan).state = .active →
      t.link pl.chan = { s.link pl.chan with queue := [], reserved := 0 } ∧
      (∀ d, d ≠ pl.chan → t.link d = s.link d) ∧
      ∃ m u, m = pl.pressed.foldl (fun m k => countDown k m) (s.counts pl.chan) ∧
        u = { s with
          router := { s.router with counts := put s.router.counts pl.chan m }, links := t.links,
          player := none, mgmt := t.mgmt, sent := u.sent } ∧
        inputReports pl.chan (newSent s u) =
          [(.keyboard, keyboardReportBytes (m.map (·.1))),
           (.keyboard, keyboardReportBytes (m.map (·.1))),
           (.relativePointer, relativeBytes (s.held pl.chan) 0 0 0 0)] ∧
        t = (s.link pl.chan).queue.foldl (drainItem pl.chan) u)

/-! ## Display (chapter 06) -/

/-- R101 and R102: a change of a head's signal; a signal that leaves the record as it is changes nothing (log 7). -/
def Obligations.HeadSignalChange : Prop :=
  ∀ (h : Head) (d a : Option (Nat × Nat)) (s : State),
    a = (match d with
      | none => none
      | some z => if 7680 < z.1 ∨ 4320 < z.2 then none else some z) →
    (a = nth s.display.heads h → exec (.headSignalChange h d) s = .next s) ∧
    (a ≠ nth s.display.heads h → ∃ t, exec (.headSignalChange h d) s = .next t ∧
      t = { s with display := t.display, mgmt := t.mgmt, sent := t.sent } ∧
      t.display.monitors = s.display.monitors ∧ nth t.display.heads h = a ∧
      (∀ g, g ≠ h → nth t.display.heads g = nth s.display.heads g) ∧
      t.mgmt = { s.mgmt with
        latch := (match a with
          | none => addEvent s.mgmt.latch .headChanged
          | some z =>
            if z = ((nth s.tables.heads h).width, (nth s.tables.heads h).height) then
              addEvent s.mgmt.latch .headChanged
            else addEvent (addEvent s.mgmt.latch .headChanged) .formatMismatch)
        alertOutstanding := t.mgmt.alertOutstanding })

/-- R105 with R106, R118, R142: a change of a monitor's sink, and what becomes of its output and of the desk pointer; a
level that the detect has already changes nothing (log 7). R139, R143: the owner of P taken afresh, with the pointer notice
where it differs from the pointer channel and the position report that follows. R142, R143, R144: a desk notice whole: the
re-home or the park, and then the owner afresh, or in captive form a pointer channel set to none by a park. -/
def Obligations.HotPlugsAndDeskNotices : Prop :=
  (∀ (m : Monitor) (asserted : Bool) (s : State),
    ((s.monitorRun m).connected = asserted →
      exec (.hotPlugChange m asserted) s = .next s) ∧
    ((s.monitorRun m).connected = !asserted → ∃ t,
      exec (.hotPlugChange m asserted) s = .next t ∧
      hasEvent t.mgmt.latch .monitorChanged = true ∧
      (t.monitorRun m).connected = asserted ∧ (∀ k, k ≠ m → t.monitorRun k = s.monitorRun k) ∧
      t.display.heads = s.display.heads ∧ t.tables = s.tables ∧
      ((nth s.tables.monitors m).enabled = false →
        t = { s with display := t.display, mgmt := t.mgmt, sent := t.sent } ∧
        t.monitorRun m = { s.monitorRun m with connected := asserted }) ∧
      ((nth s.tables.monitors m).enabled = true →
        (t.monitorRun m).waiting = none ∧
        ((t.monitorRun m).picture.isSome = asserted) ∧
        (∀ w, (s.monitorRun m).waiting = some w → s.layoutOk m w.1 = true →
          (t.monitorRun m).active = w.1 ∧ (t.monitorRun m).activeOrigin = w.2 ∧
          hasEvent t.mgmt.latch .layoutApplied = true) ∧
        ((s.monitorRun m).waiting = none →
          (t.monitorRun m).active = (s.monitorRun m).active ∧
          (t.monitorRun m).activeOrigin = (s.monitorRun m).activeOrigin) ∧
        (t.liveMonitors = [] → t.pointer.parked = true ∧ (s.pointer.parked = false →
          t.pointer.x = 0 ∧ t.pointer.y = 0 ∧ t.pointer.fx = 0 ∧ t.pointer.fy = 0 ∧
          t.pointer.channel = none)) ∧
        (∀ k rest, t.liveMonitors = k :: rest →
          s.pointer.parked = true ∨ t.monitorAt s.pointer.x s.pointer.y = none →
          t.pointer.parked = false ∧ t.pointer.fx = 0 ∧ t.pointer.fy = 0 ∧
          t.pointer.x = (t.monitorRect k).x + (t.monitorRect k).w / 2 ∧
          t.pointer.y = (t.monitorRect k).y + (t.monitorRect k).h / 2) ∧
        (s.pointer.parked = false → t.monitorAt s.pointer.x s.pointer.y ≠ none →
          t.pointer.parked = false ∧ t.pointer.x = s.pointer.x ∧ t.pointer.y = s.pointer.y ∧
          t.pointer.fx = s.pointer.fx ∧ t.pointer.fy = s.pointer.fy)))) ∧
  (∀ (s : State) (o : Option Chan) (v : State),
    o = (if s.pointer.parked then none else s.ownerAt s.pointer.x s.pointer.y) →
    v = (if o = s.pointer.channel then s
      else pointerNotice o { s with pointer := { s.pointer with channel := o } }) →
    (o = none → ownerAndPosition s = v) ∧
    (∀ c a, o = some c → s.mapPoint c s.pointer.x s.pointer.y = some a →
      (v.deliverable c = false → ownerAndPosition s = v) ∧
      (v.deliverable c = true → ownerAndPosition s =
        if o ≠ s.pointer.channel ∨ nth s.pointer.lastAbs c ≠ some a then
          { v with
            pointer := { v.pointer with lastAbs := put v.pointer.lastAbs c (some a) }
            sent := v.sent ++ [.report c .absolutePointer (absoluteBytes (s.held c) a.1 a.2 0 0)] }
        else v))) ∧
  (∀ (s : State) (p : Pointer),
    p = (match s.liveMonitors with
      | [] => if s.pointer.parked then s.pointer
        else { s.pointer with x := 0, y := 0, fx := 0, fy := 0, parked := true }
      | k :: _ => if s.pointer.parked = true ∨ s.monitorAt s.pointer.x s.pointer.y = none then
          { s.pointer with
            x := (s.monitorRect k).x + (s.monitorRect k).w / 2
            y := (s.monitorRect k).y + (s.monitorRect k).h / 2
            fx := 0, fy := 0, parked := false }
        else s.pointer) →
    (s.captive = false → deskNotice s = ownerAndPosition { s with pointer := p }) ∧
    (s.captive = true → deskNotice s =
      if p.parked = true ∧ s.pointer.channel ≠ none then
        { s with
          pointer := { p with channel := none }
          focus := { s.focus with dwell := none } }
      else { s with pointer := p }))

/-- R106, R110, R117, R121: a frame start settles a pending layout and then fixes the picture, and a layout that becomes active
brings a desk notice; a monitor that is not live has no frame start (log 7). R110, R111, R112: what a tile shows and the colour or head pixel of each point of it. The picture is held as a
description (log 25). -/
def Obligations.FramesAndPictures : Prop :=
  (∀ (m : Monitor) (s : State),
       (s.live m = false → exec (.frameStart m) s = .next s) ∧
       (s.live m = true → ∀ frame : Layout → Option Picture,
         (∀ l, frame l = some {
           width := (nth s.tables.monitors m).width, height := (nth s.tables.monitors m).height,
           tiles := l.map fun t => (t.rect, s.shownIn t) }) →
         ((s.monitorRun m).waiting = none → ∃ t, exec (.frameStart m) s = .next t ∧
           t = { s with display := t.display } ∧ t.display.heads = s.display.heads ∧
           t.monitorRun m = { s.monitorRun m with picture := frame (s.monitorRun m).active } ∧
           ∀ k, k ≠ m → t.monitorRun k = s.monitorRun k) ∧
         (∀ l o, (s.monitorRun m).waiting = some (l, o) → s.layoutOk m l = true →
           ∃ t, exec (.frameStart m) s = .next t ∧
             t = deskNotice ((latch .layoutApplied s).setMonitorRun m { s.monitorRun m with
               active := l, activeOrigin := o, waiting := none, picture := frame l }) ∧
             hasEvent t.mgmt.latch .layoutApplied = true ∧
             t.monitorRun m = { s.monitorRun m with
               active := l, activeOrigin := o, waiting := none, picture := frame l } ∧
             (∀ k, k ≠ m → t.monitorRun k = s.monitorRun k) ∧
             t.display.heads = s.display.heads ∧ t.tables = s.tables) ∧
         (∀ l o, (s.monitorRun m).waiting = some (l, o) → s.layoutOk m l = false →
           ∃ t, exec (.frameStart m) s = .next t ∧
             t = { s with display := t.display, mgmt := t.mgmt, sent := t.sent } ∧
             t.monitorRun m = { s.monitorRun m with
               waiting := none, picture := frame (s.monitorRun m).active } ∧
             (∀ k, k ≠ m → t.monitorRun k = s.monitorRun k) ∧
             hasEvent t.mgmt.latch .layoutRefused = (hasEvent s.mgmt.latch .layoutRefused ||
               !geometryOk s.tables m l) ∧
             hasEvent t.mgmt.latch .mixRefused = (hasEvent s.mgmt.latch .mixRefused ||
               !mixOk s.tables s.mgmt.policy l)))) ∧
  (∀ (s : State) (r : Rect) (v : HeadView),
       s.shownIn ⟨r, none⟩ = .blank ∧
       (∀ c, (nth s.tables.heads v.head).owner = some c →
         (s.link c).state = .suspended ∨ (s.link c).state = .waking →
         s.shownIn ⟨r, some v⟩ = .asleep) ∧
       ((∀ c, (nth s.tables.heads v.head).owner = some c →
           (s.link c).state = .detached ∨ (s.link c).state = .active) →
         s.shownIn ⟨r, some v⟩ = match nth s.display.heads v.head with
           | none => .noSignal
           | some z => .picture v z.1 z.2) ∧
       (∀ p : Picture, ∀ lx ly : Nat,
         ((∀ t ∈ p.tiles, t.1.contains lx ly = false) → p.pixel lx ly = .colour 0 0 0) ∧
         (∀ sh, (r, sh) ∈ p.tiles → r.contains lx ly = true →
           (∀ t ∈ p.tiles, t.1.contains lx ly = true → t = (r, sh)) →
           (sh = .blank → p.pixel lx ly = .colour 0 0 0) ∧
           (sh = .noSignal → p.pixel lx ly = .colour 48 48 48) ∧
           (sh = .asleep → p.pixel lx ly = .colour 0 0 64) ∧
           (∀ w h hx hy, sh = .picture v w h →
             hx = v.source.x + (lx - r.x) * v.source.w / r.w →
             hy = v.source.y + (ly - r.y) * v.source.h / r.h →
             p.pixel lx ly = if hx < w ∧ hy < h then .headPixel v.head hx hy else .colour 0 0 0))))

/-- R114 to R116, R118, R177: a recall places every present part of its preset or none, and SET_LAYOUT places its
layout or not; with the checks they make, of R108 and R109, and the events they latch. A preset or monitor number outside its
range and bytes that are no well-formed layout's image are INVALID. -/
def Obligations.LayoutsPlaced : Prop :=
  (∀ (c : Chan) (f : Frame) (s : State), Accepted .recallPreset c f s →
     (16 ≤ byteAt f.payload 0 → exec (.recallPreset c f) s =
       .next (answer .recallPreset c f ⟨.invalid, [], none⟩ s s)) ∧
     (∀ p : Fin 16, f.payload = [byteOf p.val] →
       ((∃ m l, nth (nth s.tables.presets p) m = some l ∧ s.layoutOk m l = false) → ∃ u,
         exec (.recallPreset c f) s =
           .next (answer .recallPreset c f ⟨.invalid, [8], none⟩ s u) ∧
         u = { s with mgmt := u.mgmt, sent := u.sent } ∧
         (∀ g, hasEvent u.mgmt.latch g = true ↔ hasEvent s.mgmt.latch g = true ∨
           (g = .layoutRefused ∧ ∃ m l, nth (nth s.tables.presets p) m = some l ∧
             geometryOk s.tables m l = false) ∨
           (g = .mixRefused ∧ ∃ m l, nth (nth s.tables.presets p) m = some l ∧
             mixOk s.tables s.mgmt.policy l = false))) ∧
       ((∀ m l, nth (nth s.tables.presets p) m = some l → s.layoutOk m l = true) → ∃ u,
         exec (.recallPreset c f) s =
           .next (answer .recallPreset c f ⟨.ok, [3], none⟩ s u) ∧
         u = { s with display := u.display, mgmt := u.mgmt, sent := u.sent } ∧
         (∀ g, hasEvent u.mgmt.latch g = true ↔ hasEvent s.mgmt.latch g = true ∨
           (g = .layoutApplied ∧ ∃ m l, nth (nth s.tables.presets p) m = some l ∧
             s.live m = false)) ∧
         u.display.heads = s.display.heads ∧
         ∀ m, u.monitorRun m = match nth (nth s.tables.presets p) m with
           | none => s.monitorRun m
           | some l =>
             if s.live m = true then { s.monitorRun m with waiting := some (l, .preset p) }
             else { s.monitorRun m with
               active := l, activeOrigin := .preset p, waiting := none }))) ∧
  (∀ (c : Chan) (f : Frame) (s : State), Accepted .setLayout c f s →
     (byteAt f.payload 0 = 0 ∨ 6 < byteAt f.payload 0 ∨
         (∀ l, layoutWellFormed l = true → layoutImage l ≠ f.payload.drop 1) →
       exec (.setLayout c f) s = .next (answer .setLayout c f ⟨.invalid, [], none⟩ s s)) ∧
     (∀ (m : Monitor) (l : Layout), layoutWellFormed l = true →
       f.payload = byteOf (m.val + 1) :: layoutImage l →
       (s.layoutOk m l = false → ∃ u, exec (.setLayout c f) s =
           .next (answer .setLayout c f ⟨.invalid, [8], none⟩ s u) ∧
         u = { s with mgmt := u.mgmt, sent := u.sent } ∧
         (∀ g, hasEvent u.mgmt.latch g = true ↔ hasEvent s.mgmt.latch g = true ∨
           (g = .layoutRefused ∧ geometryOk s.tables m l = false) ∨
           (g = .mixRefused ∧ mixOk s.tables s.mgmt.policy l = false))) ∧
       (s.layoutOk m l = true → ∃ u, exec (.setLayout c f) s =
           .next (answer .setLayout c f ⟨.ok, [3], none⟩ s u) ∧
         u = { s with display := u.display, mgmt := u.mgmt, sent := u.sent } ∧
         (∀ g, hasEvent u.mgmt.latch g = true ↔ hasEvent s.mgmt.latch g = true ∨
           (g = .layoutApplied ∧ s.live m = false)) ∧
         u.display.heads = s.display.heads ∧ (∀ k, k ≠ m → u.monitorRun k = s.monitorRun k) ∧
         u.monitorRun m =
           if s.live m = true then { s.monitorRun m with waiting := some (l, .setLayout) }
           else { s.monitorRun m with active := l, activeOrigin := .setLayout, waiting := none }))) ∧
  (∀ (T : Tables) (P : Policy) (m : Monitor) (l : Layout),
     (geometryOk T m l = true ↔ ∀ t ∈ l,
       t.rect.x + t.rect.w ≤ (nth T.monitors m).width ∧
       t.rect.y + t.rect.h ≤ (nth T.monitors m).height ∧
       ∀ v, t.content = some v →
         v.source.x + v.source.w ≤ (nth T.heads v.head).width ∧
         v.source.y + v.source.h ≤ (nth T.heads v.head).height) ∧
     (mixOk T P l = true ↔ ∀ t ∈ l, ∀ u ∈ l, ∀ v w c d,
       t.content = some v → u.content = some w → (nth T.heads v.head).owner = some c →
       (nth T.heads w.head).owner = some d →
       (nth T.channels c).group = (nth T.channels d).group ∨
       P.mixes (nth T.channels c).group (nth T.channels d).group = true))

/-- R109: no monitor's active layout ever breaks the geometry check or the mix rule, with the policy at its power-on value
until its one write. -/
def Obligations.LayoutsPassKept : Prop :=
  ∀ s t : State, LayoutsPass s ∧ PolicyOnce s → step s = .next t → LayoutsPass t ∧ PolicyOnce t

/-! ## Pointer (chapter 07) -/

/-- R131 and R132: the speed, the gain, the step and the new fraction of an axis, and their bounds. -/
def Obligations.BallisticsLaw : Prop :=
  ∀ (b : Ballistics) (dx dy f : Int), b.InRange → dx.natAbs ≤ 2047 → dy.natAbs ≤ 2047 →
    f.natAbs ≤ 255 →
    speedOf dx dy = max dx.natAbs dy.natAbs + min dx.natAbs dy.natAbs / 2 ∧
    speedOf dx dy ≤ 3070 ∧
    (speedOf dx dy ≤ b.vb → gainOf b (speedOf dx dy) = b.g0) ∧
    (b.vb < speedOf dx dy → gainOf b (speedOf dx dy) =
      min b.gmax (b.g0 + b.k * (speedOf dx dy - b.vb))) ∧
    16 ≤ b.g0 ∧ b.g0 ≤ gainOf b (speedOf dx dy) ∧ gainOf b (speedOf dx dy) ≤ b.gmax ∧
    b.gmax ≤ 4096 ∧
    ∃ p f', scaleAxis f dx (gainOf b (speedOf dx dy)) = (p, f') ∧
      256 * p + f' = f + dx * gainOf b (speedOf dx dy) ∧ f'.natAbs ≤ 255 ∧ p.natAbs ≤ 32752 ∧
      (0 ≤ f + dx * gainOf b (speedOf dx dy) → 0 ≤ f') ∧
      (f + dx * gainOf b (speedOf dx dy) ≤ 0 → f' ≤ 0) ∧ (dx = 0 → p = 0 ∧ f' = f)

/-- R121, R135: the tile under a desk point and its owner; R136: its coordinates on the owner's desktop; R137: the conversion
to absolute coordinates is the stated quotient, keeps both ends, does not fall as the point moves up, and stays within 0 to
32767. -/
def Obligations.OwnerAndMapping : Prop :=
  (∀ w x : Nat, 2 ≤ w → x < w →
     absoluteCoordinate x w = (x * 32767 + (w - 1) / 2) / (w - 1) ∧
     absoluteCoordinate x w ≤ 32767 ∧ absoluteCoordinate 0 w = 0 ∧
     absoluteCoordinate (w - 1) w = 32767 ∧
     ∀ y, y ≤ x → absoluteCoordinate y w ≤ absoluteCoordinate x w) ∧
  (∀ (s : State) (x y : Nat) (m : Monitor) (lx ly : Nat),
     ((∀ k, s.live k = true → (s.monitorRect k).contains x y = false) → s.ownerAt x y = none) ∧
     (s.live m = true → (s.monitorRect m).contains x y = true →
       (∀ k, s.live k = true → (s.monitorRect k).contains x y = true → k = m) →
       lx = x - (s.monitorRect m).x → ly = y - (s.monitorRect m).y →
       ((∀ t ∈ (s.monitorRun m).active, t.rect.contains lx ly = false) →
         s.ownerAt x y = none) ∧
       (∀ t, t ∈ (s.monitorRun m).active → t.rect.contains lx ly = true →
         (∀ u ∈ (s.monitorRun m).active, u.rect.contains lx ly = true → u = t) →
         (t.content = none → s.ownerAt x y = none) ∧
         (∀ v h, t.content = some v → h = nth s.tables.heads v.head →
           s.ownerAt x y = (match h.owner with
             | none => none
             | some c => if (s.chanRec c).pointerMode = .relative then none else some c) ∧
           ∀ c, s.mapPoint c x y = some
             (absoluteCoordinate (h.ox + (v.source.x + (lx - t.rect.x) * v.source.w / t.rect.w))
                (s.chanRec c).width,
              absoluteCoordinate (h.oy + (v.source.y + (ly - t.rect.y) * v.source.h / t.rect.h))
                (s.chanRec c).height)))))

/-- R127: whenever a monitor is live the desk pointer lies inside a live monitor, otherwise it is parked; and what that
rests on. -/
def Obligations.PointerStaysOnDesk : Prop :=
  ∀ s t : State, DeskInvariant s → step s = .next t → DeskInvariant t

/-- R125, R138, R139 on a sample without buttons in absolute form: where the pointer goes, what its channel becomes, and
what is sent, also where the sample has just changed that channel, and nothing where the new point has no owner; a parked
pointer stays. R76 on such a sample in captive
form: the saturated motion goes to the focus channel when it is deliverable, and the desk pointer stands still. A field that
is not wholly there is 0 (log 19). -/
def Obligations.PointerMotion : Prop :=
  ∀ (bytes : List Byte) (s : State) (sm : Sample), s.console.ptr = ⟨.active, noButtons⟩ →
    reportButtons bytes = noButtons → sm = sampleOf noButtons bytes →
    (sm.dx = max (-2047) (min 2047 (signed16At bytes 1)) ∧
      sm.dy = max (-2047) (min 2047 (signed16At bytes 3)) ∧
      sm.wheel = max (-127) (min 127 (signed8At bytes 5)) ∧
      sm.pan = max (-127) (min 127 (signed8At bytes 6))) ∧
    (s.captive = false → ∃ t, exec (.pointerReport bytes) s = .next t ∧
      t.console = s.console ∧ (s.pointer.parked = true → t = s) ∧
      (s.pointer.parked = false → ∀ u, u = movePointer sm.dx sm.dy s →
        t.pointer.x = u.pointer.x ∧ t.pointer.y = u.pointer.y ∧
        t.pointer.fx = u.pointer.fx ∧ t.pointer.fy = u.pointer.fy ∧ t.pointer.parked = false ∧
        t.pointer.channel = s.ownerAt u.pointer.x u.pointer.y ∧
        t.pointer.buttons = s.pointer.buttons ∧ t.pointer.held = s.pointer.held ∧
        (s.ownerAt u.pointer.x u.pointer.y = none →
          t = { s with pointer := t.pointer, focus := { s.focus with
            dwell := if s.pointer.channel = none then s.focus.dwell else none } }) ∧
        (∀ c, s.ownerAt u.pointer.x u.pointer.y ≠ some c →
          nth t.pointer.lastAbs c = nth s.pointer.lastAbs c) ∧
        (∀ c a, s.ownerAt u.pointer.x u.pointer.y = some c → s.pointer.channel = some c →
          s.mapPoint c u.pointer.x u.pointer.y = some a →
          (s.deliverable c = true →
            nth t.pointer.lastAbs c = some a ∧
            newSent s t = if nth s.pointer.lastAbs c ≠ some a ∨ sm.wheel ≠ 0 ∨ sm.pan ≠ 0 then
              [.report c .absolutePointer (absoluteBytes (s.held c) a.1 a.2 sm.wheel sm.pan)]
              else []) ∧
          (s.deliverable c = false → t = { s with pointer := t.pointer } ∧
            nth t.pointer.lastAbs c = nth s.pointer.lastAbs c)) ∧
        (∀ c a, s.ownerAt u.pointer.x u.pointer.y = some c → s.pointer.channel ≠ some c →
          s.mapPoint c u.pointer.x u.pointer.y = some a →
          (s.deliverable c = true → nth t.pointer.lastAbs c = some a ∧
            (inputReports c (newSent s t)).filter (fun r => r.1 == .absolutePointer) =
              [(.absolutePointer, absoluteBytes (s.held c) a.1 a.2 sm.wheel sm.pan)]) ∧
          (s.deliverable c = false →
            nth t.pointer.lastAbs c = nth s.pointer.lastAbs c ∧
            (inputReports c (newSent s t)).filter (fun r => r.1 == .absolutePointer) = [])))) ∧
    (∀ f, s.focus.channel = some f → (s.chanRec f).pointerMode = .relative → ∃ t,
      exec (.pointerReport bytes) s = .next t ∧ t = { s with sent := t.sent } ∧
      newSent s t = if s.deliverable f = true ∧
          (sm.dx ≠ 0 ∨ sm.dy ≠ 0 ∨ sm.wheel ≠ 0 ∨ sm.pan ≠ 0) then
        [.report f .relativePointer (relativeBytes (s.held f)
          (max (-127) (min 127 sm.dx)) (max (-127) (min 127 sm.dy)) sm.wheel sm.pan)]
        else [])

/-- R76, R125, R138 whole: a sample with motion and buttons. In absolute form the releases come first, in ascending number
(R141), then for a pointer that is not parked the movement, the owner and the motion delivery (R139), and the presses last,
toward the pointer channel that step 3 left, each behind its press notice (R140, R154). In captive form the releases come
before the presses (R77), and one relative report carries the motion and both where it calls for it. What one release and one
press do, over any state (R12, R13, R14, R15). That nothing else is taken between two steps is the model's choice (log 27). -/
def Obligations.PointerSamples : Prop :=
  (∀ (bytes : List Byte) (s v : State) (sm : Sample), s.console.ptr.state = .active →
    sm = sampleOf s.console.ptr.last bytes →
    v = { s with console := { s.console with ptr := ⟨.active, reportButtons bytes⟩ } } →
    (∀ b, nth (reportButtons bytes) b = (bytes.getD 0 0).getLsbD b.val) ∧
    sm.releases.Pairwise (· < ·) ∧ sm.presses.Pairwise (· < ·) ∧
    (∀ b, b ∈ sm.releases ↔
      nth s.console.ptr.last b = true ∧ nth (reportButtons bytes) b = false) ∧
    (∀ b, b ∈ sm.presses ↔
      nth s.console.ptr.last b = false ∧ nth (reportButtons bytes) b = true) ∧
    (s.captive = false → ∀ r, r = sm.releases.foldl (fun a b => releaseButton none a b) v →
      ∃ w, exec (.pointerReport bytes) s =
        .next (sm.presses.foldl (fun a b => pressAbsolute w.pointer.channel a b) w) ∧
      (r.pointer.parked = true → w = r) ∧
      (r.pointer.parked = false → ∀ m n, m = movePointer sm.dx sm.dy r →
        n = (if m.ownerOfPointer = m.pointer.channel then m else pointerNotice m.ownerOfPointer
          { m with pointer := { m.pointer with channel := m.ownerOfPointer } }) →
        (m.ownerOfPointer = none → w = n) ∧
        (∀ c a, m.ownerOfPointer = some c → m.mapPoint c m.pointer.x m.pointer.y = some a →
          (n.deliverable c = false → w = n) ∧
          (n.deliverable c = true → w = if nth m.pointer.lastAbs c ≠ some a ∨
              m.pointer.channel ≠ some c ∨ sm.wheel ≠ 0 ∨ sm.pan ≠ 0 then
            { n with
              pointer := { n.pointer with lastAbs := put n.pointer.lastAbs c (some a) }
              sent := n.sent ++ [.report c .absolutePointer
                (absoluteBytes (n.held c) a.1 a.2 sm.wheel sm.pan)] }
            else n)))) ∧
    (∀ f, s.focus.channel = some f → (s.chanRec f).pointerMode = .relative → ∀ (dx dy : Int) w,
      dx = max (-127) (min 127 sm.dx) → dy = max (-127) (min 127 sm.dy) →
      w = sm.presses.foldl (fun a b => pressCaptive f a b)
        (sm.releases.foldl (fun a b => releaseButton (some f) a b) v) →
      exec (.pointerReport bytes) s = .next (if w.deliverable f = true ∧ (dx ≠ 0 ∨ dy ≠ 0 ∨
          sm.wheel ≠ 0 ∨ sm.pan ≠ 0 ∨ w.held f ≠ s.held f) then
        { w with sent := w.sent ++ [.report f .relativePointer
          (relativeBytes (w.held f) dx dy sm.wheel sm.pan)] }
        else w))) ∧
  (∀ (carrier : Option Chan) (b : Button) (s : State) (gone : State → State),
    (∀ u, gone u = { u with pointer := { u.pointer with buttons := put u.pointer.buttons b none } }) →
    (nth s.pointer.buttons b = none → releaseButton carrier s b = s) ∧
    (nth s.pointer.buttons b = some .consumed → releaseButton carrier s b = gone s) ∧
    (∀ c, nth s.pointer.buttons b = some (.channel c .queued) →
      releaseButton carrier s b = gone (s.setLink c { s.link c with
        queue := (s.link c).queue.map (HoldItem.forgetButton b) ++ [.buttonUp b false]
        reserved := (s.link c).reserved - 1 })) ∧
    (∀ c u, nth s.pointer.buttons b = some (.channel c .delivered) →
      u = s.setHeld c (put (s.held c) b false) →
      (s.deliverable c = true → releaseButton carrier s b = gone (if carrier = some c then u
        else { u with
          sent := u.sent ++ [.report c .relativePointer (relativeBytes (u.held c) 0 0 0 0)] })) ∧
      (s.deliverable c = false → releaseButton carrier s b = gone (
        if (s.link c).state = .active ∧ ((s.link c).queue = [] ∨
            1 + (s.link c).queue.length + (s.link c).reserved ≤ 32) then
          u.setLink c { s.link c with queue := (s.link c).queue ++ [.buttonUp b true] }
        else u)))) ∧
  (∀ (b : Button) (s : State) (target : ButtonTarget → State → State),
    (∀ g u, target g u = { u with
      pointer := { u.pointer with buttons := put u.pointer.buttons b (some g) } }) →
    pressAbsolute none s b = target .consumed s ∧
    (∀ c, (∀ d, s.focus.dwell = some d → d.candidate ≠ c) →
      pressAbsolute (some c) s b = offerButton true c b s) ∧
    (∀ c d u, s.focus.dwell = some d → d.candidate = c → exec .dwellExpiry s = .next u →
      pressAbsolute (some c) s b = offerButton true c b u) ∧
    (∀ c, pressCaptive c s b = offerButton false c b s) ∧
    (∀ (report : Bool) (c : Chan) (room : Prop) (queued : State),
      (room ↔ 2 + (s.link c).queue.length + (s.link c).reserved ≤ 32) →
      queued = s.setLink c { s.link c with
        queue := (s.link c).queue ++ [.buttonDown b true], reserved := (s.link c).reserved + 1 } →
      (s.deliverable c = true → ∀ u, u = s.setHeld c (put (s.held c) b true) →
        offerButton report c b s = target (.channel c .delivered) (if report = true then { u with
            sent := u.sent ++ [.report c .relativePointer (relativeBytes (u.held c) 0 0 0 0)] }
          else u)) ∧
      ((s.link c).state = .waking ∨ (s.link c).state = .active ∧ s.deliverable c = false →
        (room → offerButton report c b s = target (.channel c .queued) queued) ∧
        (¬room → offerButton report c b s = target .consumed (latch .holdOverflow s))) ∧
      ((s.link c).state = .suspended → (s.chanRec c).wakeOnInput = true →
        ((s.link c).permission = true → room →
          offerButton report c b s = target (.channel c .queued) (signalWake c 1 queued)) ∧
        ((s.link c).permission = true → ¬room → offerButton report c b s =
          target .consumed (signalWake c 1 (latch .holdOverflow s))) ∧
        ((s.link c).permission = false →
          offerButton report c b s = target .consumed (latch .wakeDenied s))) ∧
      ((s.link c).state = .detached ∨
          (s.link c).state = .suspended ∧ (s.chanRec c).wakeOnInput = false →
        offerButton report c b s = target .consumed s)))

/-- R133: a candidate on a live monitor is taken; any other is clamped, axis by axis, into the monitor that holds P. R128,
R134: the drag channel, and the point confined to the tile that holds P, or to P, where that channel does not own it. R131
to R134: the movement of the desk pointer whole, with the fraction of an axis lost where a clamp changed its coordinate. -/
def Obligations.PointerResolution : Prop :=
  (∀ (s : State) (qx qy : Int),
       (∀ m, s.live m = true → ((s.monitorRect m).x : Int) ≤ qx →
         qx < (s.monitorRect m).x + (s.monitorRect m).w → ((s.monitorRect m).y : Int) ≤ qy →
         qy < (s.monitorRect m).y + (s.monitorRect m).h →
         s.resolve qx qy = (qx.toNat, qy.toNat)) ∧
       (∀ m, s.monitorAt s.pointer.x s.pointer.y = some m →
         (∀ k, s.live k = true → ¬(((s.monitorRect k).x : Int) ≤ qx ∧
           qx < (s.monitorRect k).x + (s.monitorRect k).w ∧ ((s.monitorRect k).y : Int) ≤ qy ∧
           qy < (s.monitorRect k).y + (s.monitorRect k).h)) →
         ∃ x y, s.resolve qx qy = (x, y) ∧ (s.monitorRect m).contains x y = true ∧
           ((s.monitorRect m).x ≤ qx ∧ qx < (s.monitorRect m).x + (s.monitorRect m).w →
             (x : Int) = qx) ∧
           (qx < (s.monitorRect m).x → x = (s.monitorRect m).x) ∧
           (((s.monitorRect m).x : Int) + (s.monitorRect m).w ≤ qx →
             x + 1 = (s.monitorRect m).x + (s.monitorRect m).w) ∧
           ((s.monitorRect m).y ≤ qy ∧ qy < (s.monitorRect m).y + (s.monitorRect m).h →
             (y : Int) = qy) ∧
           (qy < (s.monitorRect m).y → y = (s.monitorRect m).y) ∧
           (((s.monitorRect m).y : Int) + (s.monitorRect m).h ≤ qy →
             y + 1 = (s.monitorRect m).y + (s.monitorRect m).h))) ∧
  (∀ s : State,
     (∀ c, s.dragChannel = some c ↔ ∃ b, (∃ st, nth s.pointer.buttons b = some (.channel c st)) ∧
       ∀ a, a < b → ∀ d st, nth s.pointer.buttons a ≠ some (.channel d st)) ∧
     (∀ d : Nat × Nat,
       (s.dragChannel = none → s.confine d = d) ∧
       (∀ c, s.dragChannel = some c →
         (s.ownerAt d.1 d.2 = some c → s.confine d = d) ∧
         (s.ownerAt d.1 d.2 ≠ some c →
           (s.tileUnder s.pointer.x s.pointer.y = none →
             s.confine d = (s.pointer.x, s.pointer.y)) ∧
           (∀ m t, s.tileUnder s.pointer.x s.pointer.y = some (m, t) →
             1 ≤ t.rect.w → 1 ≤ t.rect.h → s.confine d =
               (max ((s.monitorRect m).x + t.rect.x)
                  (min ((s.monitorRect m).x + t.rect.x + t.rect.w - 1) d.1),
                max ((s.monitorRect m).y + t.rect.y)
                  (min ((s.monitorRect m).y + t.rect.y + t.rect.h - 1) d.2)))))) ∧
     (∀ (dx dy : Int) (g : Nat) (ax ay : Int × Int) (qx qy : Int) (d e : Nat × Nat),
       g = gainOf s.tables.ballistics (speedOf dx dy) → ax = scaleAxis s.pointer.fx dx g →
       ay = scaleAxis s.pointer.fy dy g → qx = s.pointer.x + ax.1 → qy = s.pointer.y + ay.1 →
       d = s.resolve qx qy → e = s.confine d →
       movePointer dx dy s = { s with pointer := { s.pointer with
         x := e.1, y := e.2
         fx := if (e.1 : Int) = qx ∧ (d.1 : Int) = qx then ax.2 else 0
         fy := if (e.2 : Int) = qy ∧ (d.2 : Int) = qy then ay.2 else 0 } }))

/-- R12, R128, R140 on one button pressed in absolute form by a report without motion, the pointer still and its channel c
with no dwell toward c pending, and R77 on one pressed in captive form with focus channel c: the fate of the press in every
state of c. A press with a dwell toward c pending comes after the dwell's end (R154), and one where the pointer has no channel
is consumed. R141: the release of a button, in both forms, by its entry. -/
def Obligations.PointerButtons : Prop :=
  ∀ (b : Button) (c : Chan) (s : State) (down : Byte) (pressed : ButtonTarget → State → State),
    down = BitVec.twoPow 8 b.val → s.console.ptr.state = .active →
    (∀ g u, pressed g u = { u with
      console := { s.console with ptr := ⟨.active, put noButtons b true⟩ },
      pointer := { u.pointer with buttons := put s.pointer.buttons b (some g) } }) →
    (s.console.ptr.last = noButtons → s.captive = false → PointerStill s →
      (s.pointer.channel = none → exec (.pointerReport [down]) s = .next (pressed .consumed s)) ∧
      (∀ d u, s.pointer.channel = some c → s.focus.dwell = some d → d.candidate = c →
        exec .dwellExpiry s = .next u →
        exec (.pointerReport [down]) s = exec (.pointerReport [down]) u)) ∧
    (s.console.ptr.last = noButtons →
      (s.captive = false ∧ PointerStill s ∧ s.pointer.channel = some c ∧
          s.focus.dwell.map (·.candidate) ≠ some c) ∨
        (s.captive = true ∧ s.focus.channel = some c ∧ nth (s.held c) b = false) →
      ∃ t, exec (.pointerReport [down]) s = .next t ∧
        ((s.link c).state = .active → s.serves c = false → (s.link c).queue = [] →
          t = pressed (.channel c .delivered) { s with
            pointer := { s.pointer with held := t.pointer.held }, sent := t.sent } ∧
          t.held c = put (s.held c) b true ∧ (∀ d, d ≠ c → t.held d = s.held d) ∧
          newSent s t = [.report c .relativePointer (relativeBytes (t.held c) 0 0 0 0)]) ∧
        ((s.link c).state = .waking ∨
            (s.link c).state = .active ∧ (s.serves c = true ∨ (s.link c).queue ≠ []) →
          (2 + (s.link c).queue.length + (s.link c).reserved ≤ 32 →
            t = pressed (.channel c .queued) { s with links := t.links } ∧
            t.link c = { s.link c with
              queue := (s.link c).queue ++ [.buttonDown b true]
              reserved := (s.link c).reserved + 1 } ∧ ∀ d, d ≠ c → t.link d = s.link d) ∧
          (32 < 2 + (s.link c).queue.length + (s.link c).reserved →
            t = pressed .consumed { s with mgmt := t.mgmt, sent := t.sent } ∧
            hasEvent t.mgmt.latch .holdOverflow = true)) ∧
        ((s.link c).state = .suspended → (s.chanRec c).wakeOnInput = true →
          (s.link c).permission = true →
          (2 + (s.link c).queue.length + (s.link c).reserved ≤ 32 →
            t = pressed (.channel c .queued) { s with
              links := t.links, sent := s.sent ++ [.wakeSignal c] } ∧
            t.link c = { s.link c with
              state := .waking, window := some (s.chanRec c).wakeWindow, tries := 1,
              queue := (s.link c).queue ++ [.buttonDown b true],
              reserved := (s.link c).reserved + 1 } ∧ ∀ d, d ≠ c → t.link d = s.link d) ∧
          (32 < 2 + (s.link c).queue.length + (s.link c).reserved →
            t = pressed .consumed { s with links := t.links, mgmt := t.mgmt, sent := t.sent } ∧
            hasEvent t.mgmt.latch .holdOverflow = true ∧
            t.link c = { s.link c with
              state := .waking, window := some (s.chanRec c).wakeWindow, tries := 1 } ∧
            ∀ d, d ≠ c → t.link d = s.link d)) ∧
        ((s.link c).state = .suspended → (s.chanRec c).wakeOnInput = true →
          (s.link c).permission = false →
          t = pressed .consumed { s with mgmt := t.mgmt, sent := t.sent } ∧
          hasEvent t.mgmt.latch .wakeDenied = true) ∧
        ((s.link c).state = .detached ∨
            (s.link c).state = .suspended ∧ (s.chanRec c).wakeOnInput = false →
          t = pressed .consumed s)) ∧
    (s.console.ptr.last = put noButtons b true → s.captive = true ∨ PointerStill s → ∃ t,
      exec (.pointerReport []) s = .next t ∧ t.console.ptr.last = noButtons ∧
      t.pointer = { s.pointer with
        buttons := put s.pointer.buttons b none, held := t.pointer.held } ∧
      (nth s.pointer.buttons b = none ∨ nth s.pointer.buttons b = some .consumed →
        t = { s with console := t.console, pointer := t.pointer } ∧
        t.pointer.held = s.pointer.held) ∧
      (nth s.pointer.buttons b = some (.channel c .queued) →
        t = { s with console := t.console, pointer := t.pointer, links := t.links } ∧
        t.pointer.held = s.pointer.held ∧ (∀ d, d ≠ c → t.link d = s.link d) ∧
        t.link c = { s.link c with
          queue := (s.link c).queue.map (HoldItem.forgetButton b) ++ [.buttonUp b false]
          reserved := (s.link c).reserved - 1 }) ∧
      (nth s.pointer.buttons b = some (.channel c .delivered) → nth (s.held c) b = true →
        t.held c = put (s.held c) b false ∧ (∀ d, d ≠ c → t.held d = s.held d) ∧
        (s.deliverable c = true →
          t = { s with console := t.console, pointer := t.pointer, sent := t.sent } ∧
          newSent s t = [.report c .relativePointer (relativeBytes (t.held c) 0 0 0 0)]) ∧
        (s.deliverable c = false →
          t = { s with console := t.console, pointer := t.pointer, links := t.links } ∧
          (∀ d, d ≠ c → t.link d = s.link d) ∧
          t.link c = if (s.link c).state = .active ∧ ((s.link c).queue = [] ∨
              1 + (s.link c).queue.length + (s.link c).reserved ≤ 32) then
            { s.link c with queue := (s.link c).queue ++ [.buttonUp b true] }
            else s.link c)))

/-- R124 and R126: the pointer port. A detach from ACTIVE releases every button and leaves the desk pointer where it is.
An attach to a port that has a device and a detach from an ABSENT one change nothing (log 7), and a
REJECTED port keeps its last button set (log 26). -/
def Obligations.PointerPortAttachDetach : Prop :=
  ∀ s : State,
    (s.console.ptr.state ≠ .absent → ∀ b, exec (.pointerPortAttach b) s = .next s) ∧
    (s.console.ptr.state = .absent →
      exec (.pointerPortAttach true) s =
        .next { s with console := { s.console with ptr := ⟨.active, noButtons⟩ } } ∧
      exec (.pointerPortAttach false) s = .next { s with
        console := { s.console with ptr := ⟨.rejected, s.console.ptr.last⟩ } }) ∧
    (s.console.ptr.state = .absent → exec .pointerPortDetach s = .next s) ∧
    (s.console.ptr.state = .rejected → exec .pointerPortDetach s = .next { s with
      console := { s.console with ptr := ⟨.absent, s.console.ptr.last⟩ } }) ∧
    (s.console.ptr.state = .active → PointerOnDesk s →
      s.captive = true ∨ s.pointer.channel = s.ownerOfPointer →
      (∀ b, nth s.pointer.buttons b ≠ none → nth s.console.ptr.last b = true) →
      ∃ t, exec .pointerPortDetach s = .next t ∧
        t = { s with
          console := { s.console with ptr := ⟨.absent, noButtons⟩ },
          links := t.links, pointer := t.pointer, sent := t.sent } ∧
        (∀ b, nth t.pointer.buttons b = none) ∧
        t.pointer.x = s.pointer.x ∧ t.pointer.y = s.pointer.y ∧ t.pointer.fx = s.pointer.fx ∧
        t.pointer.fy = s.pointer.fy ∧ t.pointer.parked = s.pointer.parked ∧
        t.pointer.channel = s.pointer.channel ∧
        ∀ c b, nth (t.held c) b = (nth (s.held c) b &&
          nth s.pointer.buttons b != some (.channel c .delivered)))

/-! ## Glide (chapter 08) -/

/-- R149, R153, R155: a dwell's expiry cancels it and asks for the glide; R150, R151: a pointer notice cancels a dwell and
starts one toward an eligible channel. Without a pending dwell no timer runs (log 7). -/
def Obligations.DwellAndGlide : Prop :=
  ∀ s : State,
    (s.focus.dwell = none → exec .dwellExpiry s = .next s) ∧
    (∀ d u, s.focus.dwell = some d → u = { s with focus := { s.focus with dwell := none } } →
      (judgeFocus .glide d.candidate u = .changed →
        exec .dwellExpiry s = .next (focusSteps .glide d.candidate u)) ∧
      (judgeFocus .glide d.candidate u = .refusedPolicy →
        exec .dwellExpiry s = .next (latch .glideBarrier u)) ∧
      (judgeFocus .glide d.candidate u ≠ .changed →
        judgeFocus .glide d.candidate u ≠ .refusedPolicy → exec .dwellExpiry s = .next u)) ∧
    (∀ u, u = { s with focus := { s.focus with dwell := none } } →
      pointerNotice none s = u ∧
      (∀ c, s.focus.channel = some c → pointerNotice (some c) s = u) ∧
      (∀ c, s.focus.channel ≠ some c →
        (s.focus.glideEnabled = true ∧ s.focus.pinned = false ∧ s.captive = false ∧
            (s.chanRec c).pointerMode = .absolute ∧ (s.link c).state ≠ .detached →
          ((∀ o, s.focus.channel = some o →
              s.mgmt.policy.glides (s.chanRec o).group (s.chanRec c).group = true) →
            (s.tables.desk.dwell ≠ 0 → pointerNotice (some c) s =
              { s with focus := { s.focus with dwell := some ⟨c, s.tables.desk.dwell⟩ } }) ∧
            (s.tables.desk.dwell = 0 → pointerNotice (some c) s = focusSteps .glide c u)) ∧
          ((∃ o, s.focus.channel = some o ∧
              s.mgmt.policy.glides (s.chanRec o).group (s.chanRec c).group = false) →
            pointerNotice (some c) s = latch .glideBarrier u)) ∧
        (¬(s.focus.glideEnabled = true ∧ s.focus.pinned = false ∧ s.captive = false ∧
            (s.chanRec c).pointerMode = .absolute ∧ (s.link c).state ≠ .detached) →
          pointerNotice (some c) s = u)))

/-! ## Management (chapters 09 and 10) -/

/-- R161 to R164, R185: what a request leaves where it is not carried out: nothing without an ACTIVE link, otherwise the
response of the first check that fails and nothing else; and the same for a report that is malformed or names no command.
The adjusted flag of a malformed report's answer is no (log 12), unused frame fields must be 0 (log 18), and a report that
names a command does what that command's own row does (log 24). -/
def Obligations.RefusedRequests : Prop :=
  ∀ (c : Chan) (s : State) (answered : Byte → Byte → Status → Bool → State → State),
    (∀ tag number st adj u, answered tag number st adj u = { u with
      mgmt := { u.mgmt with slots := put u.mgmt.slots c (some ⟨tag, st, u.summary, adj, [], none⟩) },
      sent := u.sent ++ [.report c .management
        [1, tag, number, u.summary, if adj then 1 else 0, 0, 0]] }) →
    (∀ (cmd : Command) (f : Frame) (adj : Bool),
      adj = decide (cmd ≠ .identify ∧ f.level.toNat < (nth s.tables.authority c).val) →
      ((s.link c).state ≠ .active → exec (cmd.instr c f) s = .next s) ∧
      ((s.link c).state = .active →
        (firstFailure cmd c f s = some .invalid →
          exec (cmd.instr c f) s = .next (answered f.tag 4 .invalid adj s)) ∧
        (firstFailure cmd c f s = some .denied →
          exec (cmd.instr c f) s = .next (answered f.tag 2 .denied adj s)) ∧
        (firstFailure cmd c f s = some .busy →
          exec (cmd.instr c f) s = .next (answered f.tag 5 .busy adj s)) ∧
        (firstFailure cmd c f s = some .locked →
          exec (cmd.instr c f) s = .next (answered f.tag 3 .locked adj s)) ∧
        (firstFailure cmd c f s = none → frameOk cmd f = false → cmd.confirmKind f = none →
          exec (cmd.instr c f) s = .next (answered f.tag 4 .invalid adj s)))) ∧
    (∀ report : List Byte,
      ((s.link c).state ≠ .active → exec (.unknownCommand c report) s = .next s) ∧
      ((s.link c).state = .active →
        (report.length < 8 ∨ report.length ≠
            8 + ((report.getD 6 0).toNat + 256 * (report.getD 7 0).toNat) →
          exec (.unknownCommand c report) s =
            .next (answered (report.getD 0 0) 4 .invalid false s)) ∧
        (8 ≤ report.length → report.length =
            8 + ((report.getD 6 0).toNat + 256 * (report.getD 7 0).toNat) →
          (report.getD 1 0).toNat = 0 ∨ 16 < (report.getD 1 0).toNat →
          exec (.unknownCommand c report) s =
            .next (answered (report.getD 0 0) 10 .unknownCommand false s)))) ∧
    (∀ (n : Nat) (cmd : Command) (f : Frame), commandOf? n = some cmd →
      f.payload.length ≤ 65535 →
      exec (.unknownCommand c (frameBytes n f)) s = exec (cmd.instr c f) s)

/-- R162, R163: the checks 2 to 6 in their order, with the level each command requires. -/
def Obligations.RequestChecksInOrder : Prop :=
  ∀ (cmd : Command) (c : Chan) (f : Frame) (s : State) (required : Nat),
    required = (match cmd with
      | .identify => 255
      | .readTable => 2
      | .writeTable =>
        if f.tableId = 2 then 0 else if f.tableId = 5 ∨ f.tableId = 9 ∨ f.tableId = 10 then 2 else 1
      | .lockTable => 0
      | .signTable => 2
      | .saveStore => 1
      | .setPolicy => 0
      | .select => 1
      | .recallPreset => 2
      | .setLayout => 2
      | .wake => 2
      | .playMacro => 1
      | .readState => 2
      | .readEvents => 2
      | .clearEvents => 1
      | .deskRestart => 0) →
    (3 < f.level.toNat ∨
        cmd ∈ [.readTable, .writeTable, .lockTable, .signTable] ∧
          (f.tableId = 0 ∨ 10 < f.tableId.toNat) →
      firstFailure cmd c f s = some .invalid) ∧
    (f.level.toNat ≤ 3 →
      (cmd ∈ [.readTable, .writeTable, .lockTable, .signTable] →
        1 ≤ f.tableId.toNat ∧ f.tableId.toNat ≤ 10) →
      (required < max f.level.toNat (nth s.tables.authority c).val →
        firstFailure cmd c f s = some .denied) ∧
      (max f.level.toNat (nth s.tables.authority c).val ≤ required →
        (s.mgmt.save ≠ none →
          cmd ∈ [.writeTable, .lockTable, .setPolicy, .saveStore, .deskRestart] →
          firstFailure cmd c f s = some .busy) ∧
        (s.mgmt.save = none ∨
            cmd ∉ [.writeTable, .lockTable, .setPolicy, .saveStore, .deskRestart] →
          (s.mgmt.confirm ≠ none → cmd = .setPolicy ∨ cmd = .writeTable ∧ f.tableId = 2 →
            firstFailure cmd c f s = some .busy) ∧
          (s.mgmt.confirm = none ∨ ¬(cmd = .setPolicy ∨ cmd = .writeTable ∧ f.tableId = 2) →
            ((cmd = .writeTable ∧ ∃ T, f.tableId.toNat = (tableIndex T).val + 1 ∧
                s.locked T = true) ∨ cmd = .setPolicy ∧ s.mgmt.policyWritten = true →
              firstFailure cmd c f s = some .locked) ∧
            ((cmd = .writeTable → ∀ T, f.tableId.toNat = (tableIndex T).val + 1 →
                s.locked T = false) → (cmd = .setPolicy → s.mgmt.policyWritten = false) →
              firstFailure cmd c f s = none)))))

/-- R165, R166, R169, R170, R178: IDENTIFY, READ_TABLE, SIGN_TABLE and READ_STATE return what they name and change nothing
but the slot; LOCK_TABLE says whether the lock was set and sets it. The revision is any number from 1 to 255 (log 3), and an
IDLE player shows 0 but for the count of skipped steps (log 16). -/
def Obligations.ReadRequests : Prop :=
  ∀ (c : Chan) (f : Frame) (s : State),
    (Accepted .identify c f s → ∃ lo hi rev : Byte, 1 ≤ rev.toNat ∧
      (∀ T, (lo.toNat + 256 * hi.toNat).testBit (tableIndex T).val = s.locked T) ∧
      exec (.identify c f) s = .next (answer .identify c f ⟨.ok,
        [0xA8, 0x21, rev, 8, 16, 6, 4, 16, 32, 4, 64, 8, 64, 32, 240, lo, hi,
          if s.mgmt.policyWritten then 1 else 0, byteOf (nth s.tables.authority c).val],
        none⟩ s s)) ∧
    (∀ T, f.tableId.toNat = (tableIndex T).val + 1 →
      (Accepted .readTable c f s →
        (1 ≤ f.count.toNat ∧ firstIndex T ≤ f.first.toNat ∧
            f.first.toNat + f.count.toNat ≤ firstIndex T + recordCount T ∧
            f.count.toNat * recordBytes T ≤ 480 →
          exec (.readTable c f) s = .next (answer .readTable c f ⟨.ok,
            (((recordImages T s.tables).drop (f.first.toNat - firstIndex T)).take
              f.count.toNat).flatten, none⟩ s s)) ∧
        (f.count.toNat = 0 ∨ f.first.toNat < firstIndex T ∨
            firstIndex T + recordCount T < f.first.toNat + f.count.toNat ∨
            480 < f.count.toNat * recordBytes T →
          exec (.readTable c f) s = .next (answer .readTable c f ⟨.invalid, [], none⟩ s s))) ∧
      (Accepted .signTable c f s → ∃ l0 l1 has s0 s1 : Byte,
        exec (.signTable c f) s =
          .next (answer .signTable c f ⟨.ok, [l0, l1, has, s0, s1], none⟩ s s) ∧
        l1 ++ l0 = signature (tableImage T s.tables) ∧
        (nth s.mgmt.signatures (tableIndex T) = none → has = 0 ∧ s0 = 0 ∧ s1 = 0) ∧
        (∀ g, nth s.mgmt.signatures (tableIndex T) = some g → has = 1 ∧ s1 ++ s0 = g)) ∧
      (Accepted .lockTable c f s → exec (.lockTable c f) s =
        .next (answer .lockTable c f ⟨.ok, [if s.locked T then 1 else 0], none⟩ s
          { s with mgmt := { s.mgmt with
            locks := put s.mgmt.locks (tableIndex T) true } }))) ∧
    (Accepted .readState c f s → ∃ bytes : List Byte, bytes.length = 62 ∧
      exec (.readState c f) s = .next (answer .readState c f ⟨.ok, bytes, none⟩ s s) ∧
      (byteAt bytes 0 = match s.focus.channel with
        | none => 0
        | some n => n.val + 1) ∧
      (byteAt bytes 1).testBit 0 = s.focus.pinned ∧
      (byteAt bytes 1).testBit 1 = s.focus.glideEnabled ∧
      (byteAt bytes 1).testBit 2 = s.captive ∧ (byteAt bytes 1).testBit 3 = s.pointer.parked ∧
      (byteAt bytes 2 = match s.focus.dwell with
        | none => 0
        | some d => d.candidate.val + 1) ∧
      (byteAt bytes 3 = match s.attention with
        | .idle => 0
        | .tapDown _ _ => 1
        | .tapUp _ _ _ => 2
        | .armed _ => 3) ∧
      (∀ n : Chan, (byteAt bytes (4 + n.val) = match (s.link n).state with
          | .detached => 0
          | .active => 1
          | .suspended => 2
          | .waking => 3) ∧
        byteAt bytes (12 + n.val) = (s.link n).queue.length % 256 ∧
        byteAt bytes (20 + n.val) = (s.link n).reserved % 256) ∧
      wordAt bytes 28 = s.pointer.x % 65536 ∧ wordAt bytes 30 = s.pointer.y % 65536 ∧
      (byteAt bytes 32 = match s.pointer.channel with
        | none => 0
        | some n => n.val + 1) ∧
      (∀ m : Monitor, byteAt bytes (33 + m.val) = match (s.monitorRun m).activeOrigin with
        | .preset p => p.val
        | .setLayout => 255
        | .blankDefault => 255) ∧
      byteAt bytes 44 = s.skipped % 256 ∧
      (s.player = none → ∀ i, i < 19 → i ≠ 5 → byteAt bytes (39 + i) = 0) ∧
      (∀ pl, s.player = some pl → byteAt bytes 39 = (if pl.playing then 2 else 1) ∧
        byteAt bytes 40 = pl.number.val + 1 ∧ byteAt bytes 41 = pl.chan.val + 1 ∧
        byteAt bytes 42 = pl.index % 256 ∧
        (byteAt bytes 43 = match pl.tapHalf with
          | none => 0
          | some k => k % 256) ∧
        (∀ i, i < 8 → (byteAt bytes 45).testBit i = pl.pressed.contains (224 + i)) ∧
        (∀ codes, codes = pl.pressed.filter (fun k => !isModifier k) → codes.length ≤ 12 →
          (∀ k ∈ codes, k < 256) →
          ((bytes.drop 46).take 12).map (·.toNat) =
            codes ++ List.replicate (12 - codes.length) 0)) ∧
      (s.mgmt.confirm = none → byteAt bytes 58 = 0 ∧ byteAt bytes 59 = 0 ∧ byteAt bytes 60 = 0) ∧
      (∀ cf, s.mgmt.confirm = some cf → byteAt bytes 58 = 1 ∧
        byteAt bytes 59 = cf.chan.val + 1 ∧ byteAt bytes 60 = match cf.kind with
          | .authorityWrite => 1
          | .setPolicy => 2) ∧
      (byteAt bytes 61 = if s.mgmt.save = none then 0 else 1))

/-- R31, R44, R86, R113, R130, R166 to R168: one record written is the record read back. A setting outside its range (step
interval and pause, ballistics, windows, dwell and volume of the desk) is clamped and the write answered OK_ADJUSTED. R184: a
DESK write that changes the alert channel clears the alert-outstanding flag, and the new channel is sent an alert at once when
it is ACTIVE with an event of the alert set latched. -/
def Obligations.RecordWrites : Prop :=
  ∀ (c : Chan) (f : Frame) (s : State) (write : Reply → Tables → Host.Outcome State Fault Refusal),
    Accepted .writeTable c f s → f.count = 1 →
    (∀ r T, write r T = .next (answer .writeTable c f r s { s with tables := T })) →
    (∀ (i : Fin 16) (r : Preset), r.InRange → f.tableId = 5 → f.first = byteOf i.val →
      f.payload = presetImage r → exec (.writeTable c f) s = write ⟨.ok, [], none⟩
        { s.tables with presets := put s.tables.presets i r }) ∧
    (∀ (i : Fin 32) (h : HotkeyEntry), h.InRange → f.tableId = 6 → f.first = byteOf i.val →
      f.payload = hotkeyImage h → exec (.writeTable c f) s = write ⟨.ok, [], none⟩
        { s.tables with hotkeys := put s.tables.hotkeys i h }) ∧
    (∀ (i : Fin 4) (km : Keymap), km.InRange → f.tableId = 7 → f.first = byteOf (i.val + 1) →
      f.payload = keymapImage km → exec (.writeTable c f) s = write ⟨.ok, [], none⟩
        { s.tables with keymaps := put s.tables.keymaps i km }) ∧
    (∀ (i : Fin 8) (m m' : MacroRec), f.tableId = 8 → f.first = byteOf (i.val + 1) →
      f.payload = macroImage m → m.interval < 256 →
      (∀ st ∈ m.steps, ∀ n, st = .pause n → n < 65536) →
      m' = ⟨max 1 (min 50 m.interval), m.steps.map fun st => match st with
        | .pause n => .pause (min n 2000)
        | other => other⟩ → m'.InRange →
      exec (.writeTable c f) s = write ⟨if m' = m then .ok else .okAdjusted, [], none⟩
        { s.tables with macros := put s.tables.macros i m' }) ∧
    (∀ b b' : Ballistics, f.tableId = 9 → f.first = 0 → f.payload = ballisticsImage b →
      b.g0 < 65536 → b.vb < 256 → b.k < 65536 → b.gmax < 65536 →
      b' = ⟨max 16 (min 2048 b.g0), b.vb, min 1024 b.k,
        max (max 16 (min 2048 b.g0)) (min 4096 b.gmax)⟩ →
      exec (.writeTable c f) s =
        write ⟨if b' = b then .ok else .okAdjusted, [], none⟩ { s.tables with ballistics := b' }) ∧
    (∀ (d d' : Desk) (st : Status) (u : State), f.tableId = 10 → f.first = 0 →
      f.payload = deskImage d → d.tapWindow < 65536 → d.armWindow < 65536 → d.dwell < 65536 →
      d.confirmWindow < 256 → d.cueVolume < 256 → d' = { d with
        tapWindow := max 100 (min 1000 d.tapWindow), armWindow := max 500 (min 5000 d.armWindow),
        dwell := min 1000 d.dwell, confirmWindow := max 2 (min 30 d.confirmWindow),
        cueVolume := min 3 d.cueVolume } → d'.InRange →
      st = (if d' = d then .ok else .okAdjusted) →
      u = { s with
        tables := { s.tables with desk := d' }, mgmt := { s.mgmt with alertOutstanding := false } } →
      (d.alertChannel = s.tables.desk.alertChannel →
        exec (.writeTable c f) s = write ⟨st, [], none⟩ { s.tables with desk := d' }) ∧
      (d.alertChannel ≠ s.tables.desk.alertChannel →
        (∀ n e, d.alertChannel = some n → (s.link n).state = .active →
          hasEvent s.mgmt.latch e = true → hasEvent d.alertSet e = true →
          (∀ g, eventNumber g < eventNumber e →
            hasEvent s.mgmt.latch g = false ∨ hasEvent d.alertSet g = false) →
          exec (.writeTable c f) s = .next (answer .writeTable c f ⟨st, [], none⟩ s { u with
            mgmt := { u.mgmt with alertOutstanding := true },
            sent := s.sent ++ [.report n .management
              ([2, byteOf (eventNumber e), 0, u.summary, 0, 3, 0] ++
                eventSetBytes s.mgmt.latch)] })) ∧
        ((∀ n, d.alertChannel = some n → (s.link n).state ≠ .active) ∨
            (∀ e, hasEvent s.mgmt.latch e = false ∨ hasEvent d.alertSet e = false) →
          exec (.writeTable c f) s = .next (answer .writeTable c f ⟨st, [], none⟩ s u))))

/-- R1, R103, R104, R120, R167: a write of one HEADS, MONITORS or CHANNELS record that breaks a desktop, the desk or a layout
in use is refused with its index and changes nothing. One that passes is in the table afterwards, and the rest of its effect
follows: a HEADS write latches FORMAT_MISMATCH where a LOCKED head's changed size differs from the detected one (R102), and
sends a desk notice (R121); a MONITORS write begins a frame at once on a monitor whose timing it changes, makes its monitor
live or stops it, with a desk notice for that (R105, R106, R118), and sends its own desk notice; a CHANNELS write begins or
ends captive (R75), and sends a desk notice where it changes a desktop size (R121) or a pointer mode (R143). That each write's
own desk notice comes last is the model's choice (log 13). A refresh, wake tries or wake window outside its range is clamped
and the write answered OK_ADJUSTED. -/
def Obligations.WritesAgainstLayoutsInUse : Prop :=
  ∀ (c : Chan) (f : Frame) (s : State), Accepted .writeTable c f s → f.count = 1 →
    (∀ (h : Head) (r : HeadRec) (T : Tables) (v : State), r.InRange → f.tableId = 3 →
      f.first = byteOf (h.val + 1) → f.payload = headImage r →
      T = { s.tables with heads := put s.tables.heads h r } → v = { s with tables := T } →
      ((∃ o, r.owner = some o ∧ ((s.chanRec o).width < r.ox + r.width ∨
            (s.chanRec o).height < r.oy + r.height)) ∨ s.breaksInUse T = true →
        exec (.writeTable c f) s = .next (answer .writeTable c f
          ⟨.invalid, [byteOf (h.val + 1)], none⟩ s s)) ∧
      ((∀ o, r.owner = some o → r.ox + r.width ≤ (s.chanRec o).width ∧
            r.oy + r.height ≤ (s.chanRec o).height) → s.breaksInUse T = false →
        ∃ u, exec (.writeTable c f) s = .next (answer .writeTable c f ⟨.ok, [], none⟩ s u) ∧
          u.tables = T ∧
          (∀ d, nth s.display.heads h = some d → d ≠ (r.width, r.height) →
            (nth s.tables.heads h).width ≠ r.width ∨ (nth s.tables.heads h).height ≠ r.height →
            u = deskNotice (latch .formatMismatch v)) ∧
          (nth s.display.heads h = none ∨ nth s.display.heads h = some (r.width, r.height) ∨
              (nth s.tables.heads h).width = r.width ∧ (nth s.tables.heads h).height = r.height →
            u = deskNotice v))) ∧
    (∀ (m : Monitor) (raw r : MonitorRec) (T : Tables) (v : State), f.tableId = 4 →
      f.first = byteOf (m.val + 1) → f.payload = monitorImage raw → raw.refresh < 256 →
      r = { raw with refresh := max 24 (min 144 raw.refresh) } → r.InRange →
      T = { s.tables with monitors := put s.tables.monitors m r } → v = { s with tables := T } →
      ((∃ k, k ≠ m ∧ r.enabled = true ∧ (nth s.tables.monitors k).enabled = true ∧
            r.rect.meets (nth s.tables.monitors k).rect = true) ∨ s.breaksInUse T = true →
        exec (.writeTable c f) s = .next (answer .writeTable c f
          ⟨.invalid, [byteOf (m.val + 1)], none⟩ s s)) ∧
      ((∀ k, k ≠ m → r.enabled = true → (nth s.tables.monitors k).enabled = true →
            r.rect.meets (nth s.tables.monitors k).rect = false) → s.breaksInUse T = false →
        ∃ u, exec (.writeTable c f) s = .next (answer .writeTable c f
            ⟨if r = raw then .ok else .okAdjusted, [], none⟩ s u) ∧ u.tables = T ∧
          (s.live m = false → v.live m = false → u = deskNotice v) ∧
          (s.live m = true → v.live m = true →
            ((nth s.tables.monitors m).width = r.width ∧ (nth s.tables.monitors m).height = r.height ∧
                (nth s.tables.monitors m).refresh = r.refresh →
              u = deskNotice v) ∧
            ((nth s.tables.monitors m).width ≠ r.width ∨ (nth s.tables.monitors m).height ≠ r.height ∨
                (nth s.tables.monitors m).refresh ≠ r.refresh →
              ∃ w, exec (.frameStart m) v = .next w ∧ u = deskNotice w)) ∧
          (s.live m = false → v.live m = true →
            ∃ w, exec (.frameStart m) v = .next w ∧ u = deskNotice (deskNotice w)) ∧
          (s.live m = true → v.live m = false →
            ((s.monitorRun m).waiting = none → u = deskNotice (deskNotice (v.setMonitorRun m
              { s.monitorRun m with picture := none }))) ∧
            (∀ l o, (s.monitorRun m).waiting = some (l, o) →
              u = deskNotice (deskNotice ((latch .layoutApplied v).setMonitorRun m
                { s.monitorRun m with
                  active := l, activeOrigin := o, waiting := none, picture := none })))))) ∧
    (∀ (n : Chan) (raw r : ChannelRec) (T : Tables) (v : State), f.tableId = 1 →
      f.first = byteOf (n.val + 1) → f.payload = channelImage raw →
      raw.wakeTries < 256 → raw.wakeWindow < 65536 →
      r = { raw with
        wakeTries := max 1 (min 4 raw.wakeTries)
        wakeWindow := max 100 (min 2000 raw.wakeWindow) } → r.InRange →
      T = { s.tables with channels := put s.tables.channels n r } → v = { s with tables := T } →
      ((∃ h, (nth s.tables.heads h).owner = some n ∧
            (r.width < (nth s.tables.heads h).ox + (nth s.tables.heads h).width ∨
              r.height < (nth s.tables.heads h).oy + (nth s.tables.heads h).height)) ∨
          s.breaksInUse T = true →
        exec (.writeTable c f) s = .next (answer .writeTable c f
          ⟨.invalid, [byteOf (n.val + 1)], none⟩ s s)) ∧
      ((∀ h, (nth s.tables.heads h).owner = some n →
            (nth s.tables.heads h).ox + (nth s.tables.heads h).width ≤ r.width ∧
            (nth s.tables.heads h).oy + (nth s.tables.heads h).height ≤ r.height) →
          s.breaksInUse T = false →
        ∃ u, exec (.writeTable c f) s = .next (answer .writeTable c f
            ⟨if r = raw then .ok else .okAdjusted, [], none⟩ s u) ∧ u.tables = T ∧
          (s.captive = v.captive → u = if (s.chanRec n).width ≠ r.width ∨
              (s.chanRec n).height ≠ r.height ∨ (s.chanRec n).pointerMode ≠ r.pointerMode then
            deskNotice v else v) ∧
          (s.captive = true → v.captive = false → u = deskNotice (ownerAndPosition v)) ∧
          (s.captive = false → v.captive = true →
            u = deskNotice { v with focus := { v.focus with dwell := none } }))) ∧
    (∀ T : Tables, s.breaksInUse T = true ↔ ∃ m l,
      (l = (s.monitorRun m).active ∨ ∃ o, (s.monitorRun m).waiting = some (l, o)) ∧
      (geometryOk T m l = false ∨ mixOk T s.mgmt.policy l = false))

/-- R1, R31, R44, R86, R103, R104, R113, R120, R130, R167, R168, R185: a WRITE_TABLE of one or several records of a table other than
AUTHORITY. A payload of another length, a count of 0 and a range outside the table are INVALID without an index. A record with
a structural fault (its image is none that RecordRoundTrip accepts), one that does not fit its desktop or the desk, and one that breaks a
layout in use refuse the whole write with the lowest such index and change nothing; were no written record found to break the
layout, the lowest written is named (log 15). The other checks see a faulty record's old contents (log 14). Otherwise all
records are in the table, and the answer is OK_ADJUSTED exactly where a setting of any of them was clamped. A DESK or
BALLISTICS write and the effects of HEADS, MONITORS and CHANNELS records are in the two statements before this one. -/
def Obligations.TableWrites : Prop :=
  ∀ (c : Chan) (f : Frame) (T : Table) (s : State) (n : Nat), (s.link c).state = .active →
    firstFailure .writeTable c f s = none → T ≠ .authority →
    f.tableId.toNat = (tableIndex T).val + 1 → n = f.count.toNat →
    (n = 0 ∨ f.first.toNat < firstIndex T ∨ firstIndex T + recordCount T < f.first.toNat + n ∨
        f.payload.length ≠ n * recordBytes T ∨ 480 < f.payload.length →
      exec (.writeTable c f) s = .next (answer .writeTable c f ⟨.invalid, [], none⟩ s s)) ∧
    (∀ (pos : Nat) (image : Nat → List Byte) (W : Tables) (bad : Nat → Prop) (adjusted : Bool),
      1 ≤ n → f.first.toNat = firstIndex T + pos → pos + n ≤ recordCount T →
      f.payload.length = n * recordBytes T → f.payload.length ≤ 480 →
      (∀ i, image i = (f.payload.drop (i * recordBytes T)).take (recordBytes T)) →
      W = (List.range n).foldl (fun A i => match readRecord T (pos + i) (image i) A with
        | none => A
        | some r => r.1) s.tables →
      (∀ i, bad i ↔ readRecord T (pos + i) (image i) s.tables = none ∨
        recordMisfits T W (pos + i) ∨ s.recordBreaks T W (pos + i) ∨
        (i = 0 ∧ T ∈ [.channels, .heads, .monitors] ∧ s.breaksInUse W = true ∧
          ∀ j, j < n → ¬s.recordBreaks T W (pos + j))) →
      (adjusted = true ↔ ∃ i A, i < n ∧
        readRecord T (pos + i) (image i) s.tables = some (A, true)) →
      (∀ i, i < n → bad i → (∀ j, j < i → ¬bad j) → exec (.writeTable c f) s =
        .next (answer .writeTable c f ⟨.invalid, [byteOf (f.first.toNat + i)], none⟩ s s)) ∧
      ((∀ i, i < n → ¬bad i) → exec (.writeTable c f) s = .next (answer .writeTable c f
          ⟨if adjusted = true then .okAdjusted else .ok, [], none⟩ s (applyWrite T W s)) ∧
        (applyWrite T W s).tables = W ∧
        (T ∈ [.presets, .hotkeys, .keymaps, .macros, .ballistics] →
          applyWrite T W s = { s with tables := W })))

/-- R169: the contents of a locked table and a written policy, and the locks themselves, stand through every command but a
power-on reset. -/
def Obligations.LockedContentsKept : Prop :=
  ∀ s t : State, PolicyOnce s → (∀ d rest, s.pending ≠ .powerOnReset d :: rest) →
    step s = .next t → LockedKept s t

/-- R171 with R164: a save, its tables one by one, its end and its failure. Where a write failed the store holds a free
value (log 4). A report of the store while no save is in progress changes nothing (log 7); STORE_FAULT latches before
the outcome is composed (log 13), which keeps the adjusted flag (log 17). R172: at a power-on a table
whose copy is missing or whose signature differs takes its factory defaults with no stored signature, and STORE_FAULT
latches; a table whose copy passes takes the image, whatever it holds, and its stored signature is the one read: one by one
for the tables that are not checked against another, and all ten of a store whose copies pass their checks. R186: a copy is an
image and after it its signature, the less significant byte first. -/
def Obligations.StoreSaveAndLoad : Prop :=
  ∀ s : State,
    (∀ c f, Accepted .saveStore c f s → exec (.saveStore c f) s =
      .next (answer .saveStore c f ⟨.working, [], some .save⟩ s { s with mgmt := { s.mgmt with
        save := some ⟨c, f.tag, s.tables, .channels⟩ } })) ∧
    (s.mgmt.save = none →
      exec .storeTableWritten s = .next s ∧ exec .storeWriteFailed s = .next s) ∧
    (∀ (sv : Save) (lo hi : Byte) (u : State), s.mgmt.save = some sv →
      hi ++ lo = signature (tableImage sv.writing sv.snapshot) →
      u = { s with
        store := put s.store (tableIndex sv.writing)
          (some (tableImage sv.writing sv.snapshot ++ [lo, hi])),
        mgmt := { s.mgmt with
          signatures := put s.mgmt.signatures (tableIndex sv.writing)
            (some (signature (tableImage sv.writing sv.snapshot))) } } →
      (∀ T, (tableIndex T).val = (tableIndex sv.writing).val + 1 →
        exec .storeTableWritten s = .next { u with mgmt := { u.mgmt with
          save := some { sv with writing := T } } }) ∧
      (sv.writing = .desk → ∀ v, v = { u with mgmt := { u.mgmt with save := none } } →
        (∀ r, nth s.mgmt.slots sv.chan = some r → r.awaits = some .save →
          exec .storeTableWritten s =
            .next (respond sv.chan r.tag r.adjusted ⟨.ok, [], none⟩ v)) ∧
        ((∀ r, nth s.mgmt.slots sv.chan = some r → r.awaits ≠ some .save) →
          exec .storeTableWritten s = .next v))) ∧
    (∀ (sv : Save) (v : State), s.mgmt.save = some sv →
      v = latch .storeFault { s with
        store := put s.store (tableIndex sv.writing) (Config.storeAfterFailure s.free),
        free := s.free + 1, mgmt := { s.mgmt with save := none } } →
      (∀ r, nth s.mgmt.slots sv.chan = some r → r.awaits = some .save →
        exec .storeWriteFailed s =
          .next (respond sv.chan r.tag r.adjusted ⟨.storeFault, [], none⟩ v)) ∧
      ((∀ r, nth s.mgmt.slots sv.chan = some r → r.awaits ≠ some .save) →
        exec .storeWriteFailed s = .next v)) ∧
    (∀ detect : Vector Bool 6, s.mgmt.save = none → ∃ t, exec (.powerOnReset detect) s = .next t ∧
      t.store = s.store ∧
      (∀ T, (nth s.store (tableIndex T) = none ∨ ∃ copy, nth s.store (tableIndex T) = some copy ∧
            (copy.length ≠ recordCount T * recordBytes T + 2 ∨ ∃ image lo hi,
              copy = image ++ [lo, hi] ∧ hi ++ lo ≠ signature image)) →
        sameTable T t.tables factoryTables ∧ nth t.mgmt.signatures (tableIndex T) = none ∧
        hasEvent t.mgmt.latch .storeFault = true) ∧
      (∀ (A : Tables) (T : Table), A.Sound →
        T ∈ [.presets, .hotkeys, .keymaps, .macros, .ballistics, .desk] →
        (∃ lo hi, hi ++ lo = signature (tableImage T A) ∧
          nth s.store (tableIndex T) = some (tableImage T A ++ [lo, hi])) →
        sameTable T t.tables A ∧
        nth t.mgmt.signatures (tableIndex T) = some (signature (tableImage T A))) ∧
      (∀ A : Tables, A.Sound → (∀ T, ∃ lo hi, hi ++ lo = signature (tableImage T A) ∧
          nth s.store (tableIndex T) = some (tableImage T A ++ [lo, hi])) →
        t.tables = A ∧ hasEvent t.mgmt.latch .storeFault = false ∧
        ∀ T, nth t.mgmt.signatures (tableIndex T) = some (signature (tableImage T A))))

/-- R173 to R176: a confirm-class request is taken into the window; CONFIRM applies or refuses it, CANCEL declines it, and
the window's expiry drops it, each with its outcome where the requester's slot still waits for it. R163: an AUTHORITY write
of one or several floors is INVALID without an index where its length or range is wrong, with the index of the lowest floor
above 3, and with the lowest written index where it would leave no floor 0, the old floor of a faulty record counting (log
14); otherwise all its floors are set, with OK. With no request pending no window runs (log 7); the event latches before the
outcome is composed (log 13), which keeps the adjusted flag of the response it replaces (log 17). -/
def Obligations.ConfirmWindow : Prop :=
  ∀ s : State,
    (∀ c f, (s.link c).state = .active →
      (firstFailure .setPolicy c f s = none → exec (.setPolicy c f) s =
        .next (answer .setPolicy c f ⟨.pendingConfirm, [], some .confirm⟩ s { s with
          mgmt := { s.mgmt with
            confirm := some ⟨c, .setPolicy, f, s.tables.desk.confirmWindow⟩ },
          focus := { s.focus with cue := some ⟨.wait, 0, s.tables.desk.cueVolume⟩ } })) ∧
      (firstFailure .writeTable c f s = none → f.tableId = 2 → exec (.writeTable c f) s =
        .next (answer .writeTable c f ⟨.pendingConfirm, [], some .confirm⟩ s { s with
          mgmt := { s.mgmt with
            confirm := some ⟨c, .authorityWrite, f, s.tables.desk.confirmWindow⟩ },
          focus := { s.focus with cue := some ⟨.wait, 0, s.tables.desk.cueVolume⟩ } }))) ∧
    (s.mgmt.confirm = none → exec .confirmWindowExpiry s = .next s) ∧
    (∀ (cf : Confirm) (free : State) (outcome : Status → List Byte → State → State),
      s.mgmt.confirm = some cf → free = { s with mgmt := { s.mgmt with confirm := none } } →
      (∀ st pl u, outcome st pl u = match nth u.mgmt.slots cf.chan with
        | none => u
        | some r =>
          if r.awaits = some .confirm then respond cf.chan r.tag r.adjusted ⟨st, pl, none⟩ u
          else u) →
      (∃ v, v = latch .confirmExpired free ∧
        exec .confirmWindowExpiry s = .next (outcome .expired [] { v with
          focus := { v.focus with cue := some ⟨.fail, 0, s.tables.desk.cueVolume⟩ } })) ∧
      declinePending cf s = outcome .declined [] free ∧
      (cf.kind = .setPolicy →
        (frameOk .setPolicy cf.frame = true ∧ (∀ b ∈ cf.frame.payload, b.toNat < 4) →
          confirmPending cf s = outcome .ok [] (latch .confirmDone { free with
            mgmt := { free.mgmt with
              policy := {
                mix := Vector.ofFn fun i => (cf.frame.payload.getD i.val 0).getLsbD 0,
                glide := Vector.ofFn fun i => (cf.frame.payload.getD i.val 0).getLsbD 1 },
              policyWritten := true } })) ∧
        (frameOk .setPolicy cf.frame = false ∨ (∃ b ∈ cf.frame.payload, 4 ≤ b.toNat) →
          confirmPending cf s = outcome .invalid [] (latch .confirmDone free))) ∧
      (cf.kind = .authorityWrite → s.locked .authority = true →
        confirmPending cf s = outcome .locked [] (latch .confirmDone free)) ∧
      (cf.kind = .authorityWrite → s.locked .authority = false → cf.frame.tableId = 2 →
        ∀ (n first : Nat) (floor : Nat → Nat) (a : Vector (Fin 4) 8),
        n = cf.frame.count.toNat → first = cf.frame.first.toNat →
        (∀ i, floor i = (cf.frame.payload.getD i 0).toNat) →
        (∀ d : Chan, (nth a d).val = if first ≤ d.val + 1 ∧ d.val + 1 < first + n ∧
            floor (d.val + 1 - first) < 4 then floor (d.val + 1 - first)
          else (nth s.tables.authority d).val) →
        (n = 0 ∨ first = 0 ∨ 9 < first + n ∨ cf.frame.payload.length ≠ n →
          confirmPending cf s = outcome .invalid [] (latch .confirmDone free)) ∧
        (1 ≤ n → 1 ≤ first → first + n ≤ 9 → cf.frame.payload.length = n →
          ((∀ d, nth a d ≠ 0) → confirmPending cf s =
            outcome .invalid [byteOf first] (latch .confirmDone free)) ∧
          (∀ i, (∃ d, nth a d = 0) → i < n → 4 ≤ floor i → (∀ j, j < i → floor j < 4) →
            confirmPending cf s =
              outcome .invalid [byteOf (first + i)] (latch .confirmDone free)) ∧
          ((∃ d, nth a d = 0) → (∀ i, i < n → floor i < 4) →
            confirmPending cf s = outcome .ok [] (latch .confirmDone { free with
              tables := { s.tables with authority := a } })))))

/-- R181, R184: a latching joins the set, and sends one alert where the alert rule says so; an alert channel's becoming
ACTIVE sends one for the lowest latched event of the alert set. R182, R183: the summary byte; READ_EVENTS returns the latch
and keeps the retain set; CLEAR_EVENTS removes what it names. -/
def Obligations.EventsAndAlerts : Prop :=
  (∀ (s : State) (alert : Chan → Event → State → State),
       (∀ c e u, alert c e u = { u with
         mgmt := { u.mgmt with alertOutstanding := true },
         sent := u.sent ++ [.report c .management
           ([2, byteOf (eventNumber e), 0, u.summary, 0, 3, 0] ++ eventSetBytes u.mgmt.latch)] }) →
       (∀ (e : Event) (u : State),
         u = { s with mgmt := { s.mgmt with latch := addEvent s.mgmt.latch e } } →
         (∀ g, hasEvent u.mgmt.latch g = (hasEvent s.mgmt.latch g || e == g)) ∧
         (∀ c, hasEvent s.tables.desk.alertSet e = true → s.mgmt.alertOutstanding = false →
           s.tables.desk.alertChannel = some c → (s.link c).state = .active →
           latch e s = alert c e u) ∧
         (hasEvent s.tables.desk.alertSet e = false ∨ s.mgmt.alertOutstanding = true ∨
             (∀ c, s.tables.desk.alertChannel = some c → (s.link c).state ≠ .active) →
           latch e s = u)) ∧
       (∀ c, s.tables.desk.alertChannel = some c → (s.link c).state = .active →
         (∀ e, s.mgmt.alertOutstanding = false → hasEvent s.mgmt.latch e = true →
           hasEvent s.tables.desk.alertSet e = true →
           (∀ g, eventNumber g < eventNumber e → hasEvent s.mgmt.latch g = false ∨
             hasEvent s.tables.desk.alertSet g = false) →
           alertOnActive c s = alert c e s) ∧
         (s.mgmt.alertOutstanding = true ∨ (∀ e, hasEvent s.mgmt.latch e = false ∨
             hasEvent s.tables.desk.alertSet e = false) →
           alertOnActive c s = s))) ∧
  (∀ (c : Chan) (f : Frame) (s : State),
       (∀ k : Fin 8, s.summary.getLsbD k.val = (match nth s.tables.desk.summarySlots k with
         | none => false
         | some e => hasEvent s.mgmt.latch e)) ∧
       (Accepted .readEvents c f s → ∃ b0 b1 b2 : Byte, b2 ++ (b1 ++ b0) = s.mgmt.latch ∧
         exec (.readEvents c f) s = .next (answer .readEvents c f ⟨.ok, [b0, b1, b2], none⟩ s
           { s with mgmt := { s.mgmt with
             latch := s.mgmt.latch &&& s.tables.desk.retainSet
             alertOutstanding := if s.tables.desk.alertChannel = some c then false
               else s.mgmt.alertOutstanding } })) ∧
       (∀ n0 n1 n2 : Byte, Accepted .clearEvents c f s → f.payload = [n0, n1, n2] →
         (n2.getLsbD 7 = true → exec (.clearEvents c f) s =
           .next (answer .clearEvents c f ⟨.invalid, [], none⟩ s s)) ∧
         (n2.getLsbD 7 = false → ∃ b0 b1 b2 : Byte, ∃ left : EventSet,
           left = s.mgmt.latch &&& ~~~(n2 ++ (n1 ++ n0)) ∧ b2 ++ (b1 ++ b0) = left ∧
           exec (.clearEvents c f) s = .next (answer .clearEvents c f ⟨.ok, [b0, b1, b2], none⟩ s
             { s with mgmt := { s.mgmt with latch := left } }))))

/-- R179 with R22, R43, R67, R83, R99, R123, R148, R160, R176, R184: what a desk restart clears and what it keeps, the DECLINED
outcome of a pending request in a slot that waits for it, the alert of DESK_START, and the OK response, which leaves on the
requester's link. The empty reports leave before the position report (log 22), and the count of skipped steps is kept (log
16). -/
def Obligations.DeskRestart : Prop :=
  ∀ (c : Chan) (f : Frame) (s : State), Accepted .deskRestart c f s → ∃ t,
    exec (.deskRestart c f) s = .next t ∧
    t.router.entries = [] ∧ (∀ d, t.counts d = []) ∧ t.attention = .idle ∧ t.player = none ∧
    t.skipped = s.skipped ∧ t.focus.pinned = false ∧ t.focus.glideEnabled = s.tables.desk.glideDefault ∧
    (∀ b, nth t.pointer.buttons b = none) ∧ (∀ d, t.held d = noButtons) ∧
    t.pointer.fx = 0 ∧ t.pointer.fy = 0 ∧ t.pointer.x = s.pointer.x ∧
    t.pointer.y = s.pointer.y ∧ t.pointer.parked = s.pointer.parked ∧
    (∀ m, t.monitorRun m = { s.monitorRun m with waiting := none }) ∧
    t.display.heads = s.display.heads ∧ t.tables = s.tables ∧ t.console = s.console ∧
    t.store = s.store ∧ t.mgmt.confirm = none ∧ t.mgmt.locks = s.mgmt.locks ∧
    t.mgmt.policy = s.mgmt.policy ∧ t.mgmt.policyWritten = s.mgmt.policyWritten ∧
    t.mgmt.signatures = s.mgmt.signatures ∧ t.mgmt.save = s.mgmt.save ∧
    (∀ started : State, started.tables = s.tables → started.mgmt.latch = eventSet [.deskStart] →
      (∀ r : Response, r = ⟨f.tag, .ok, started.summary, s.adjustedFlag .deskRestart c f, [], none⟩ →
        nth t.mgmt.slots c = some r ∧ .report c .management (responseBytes r) ∈ newSent s t) ∧
      (∀ d, hasEvent s.tables.desk.alertSet .deskStart = true →
        s.tables.desk.alertChannel = some d → (s.link d).state = .active →
        t.mgmt.alertOutstanding = true ∧ .report d .management
          ([2, byteOf (eventNumber .deskStart), 0, started.summary, 0, 3, 0] ++
            eventSetBytes (eventSet [.deskStart])) ∈ newSent s t)) ∧
    (hasEvent s.tables.desk.alertSet .deskStart = false ∨
        (∀ d, s.tables.desk.alertChannel = some d → (s.link d).state ≠ .active) →
      s.pointer.channel = s.ownerOfPointer → t.mgmt.alertOutstanding = false) ∧
    (∀ (cf : Confirm) (r r' : Response), s.mgmt.confirm = some cf →
      nth s.mgmt.slots cf.chan = some r → r.awaits = some .confirm →
      r' = ⟨r.tag, .declined, s.summary, r.adjusted, [], none⟩ →
      (cf.chan ≠ c → nth t.mgmt.slots cf.chan = some r') ∧
      ((s.link cf.chan).state = .active →
        .report cf.chan .management (responseBytes r') ∈ newSent s t)) ∧
    (∀ d, d ≠ c → (∀ cf r, s.mgmt.confirm = some cf → nth s.mgmt.slots cf.chan = some r →
        r.awaits = some .confirm → d ≠ cf.chan) →
      nth t.mgmt.slots d = nth s.mgmt.slots d) ∧
    hasEvent t.mgmt.latch .deskStart = true ∧
    (s.pointer.channel = s.ownerOfPointer → t.mgmt.latch = eventSet [.deskStart] ∧
      t.focus.dwell = none) ∧
    (s.tables.desk.dwell ≠ 0 ∨ s.pointer.channel = s.ownerOfPointer →
      t.focus.channel = s.tables.desk.defaultFocus ∧ t.focus.cue = none ∧
      ∀ d, t.link d = { s.link d with queue := [], reserved := 0 }) ∧
    (∀ d, (s.link d).state = .active → (inputReports d (newSent s t)).take 2 =
      [(.keyboard, List.replicate 14 0), (.relativePointer, List.replicate 5 0)]) ∧
    (∀ d, (s.link d).state ≠ .active → reportsTo d (newSent s t) = [])

/-! ## Formats (chapter 11) -/

/-- R186: the signature byte by byte, its value over the nine characters "123456789", and what follows from it: a list of
bytes followed by its signature, upper byte first, has signature 0. -/
def Obligations.SignatureLaw : Prop :=
  ∀ shift : BitVec 16 → BitVec 16,
    (∀ r, shift r = if r.getLsbD 15 then (r <<< 1) ^^^ 0x1021#16 else r <<< 1) →
    signature [] = 0xFFFF#16 ∧
    (∀ (bytes : List Byte) (b : Byte), signature (bytes ++ [b]) =
      shift (shift (shift (shift (shift (shift (shift (shift
        (signature bytes ^^^ (b ++ (0 : Byte)))))))))) ) ∧
    signature [0x31, 0x32, 0x33, 0x34, 0x35, 0x36, 0x37, 0x38, 0x39] = 0x29B1#16 ∧
    (∀ (bytes : List Byte) (hi lo : Byte), hi ++ lo = signature bytes →
      signature (bytes ++ [hi, lo]) = 0) ∧
    ∀ t T, tableSignature t T = signature (tableImage t T)

/-- 11.4, R185: every record in its range is read back from its own image, with no setting clamped; and the bytes of a record
are refused exactly where they are no record's image, a numeric setting apart (R1, R31, R44, R45, R86, R100, R104, R107, R113,
R163, R168): what is out of range, repeated, of the wrong kind, ill formed or not zero where it must be. A set bit among bits 4
to 7 of byte 0 of a CHANNELS record is refused by the model's choice (log 29). -/
def Obligations.RecordRoundTrip : Prop :=
  ((∀ r : ChannelRec, r.InRange → parseChannel (channelImage r) = some (r, false)) ∧
   (∀ r : Fin 4, parseAuthority (authorityImage r) = some (r, false)) ∧
   (∀ r : HeadRec, r.InRange → parseHead (headImage r) = some (r, false)) ∧
   (∀ r : MonitorRec, r.InRange → parseMonitor (monitorImage r) = some (r, false)) ∧
   (∀ r : Preset, r.InRange → parsePreset (presetImage r) = some (r, false)) ∧
   (∀ r : HotkeyEntry, r.InRange → parseHotkey (hotkeyImage r) = some (r, false)) ∧
   (∀ r : Keymap, r.InRange → parseKeymap (keymapImage r) = some (r, false)) ∧
   (∀ r : MacroRec, r.InRange → parseMacro (macroImage r) = some (r, false)) ∧
   (∀ r : Ballistics, r.InRange → parseBallistics (ballisticsImage r) = some (r, false)) ∧
   (∀ r : Desk, r.InRange → parseDesk (deskImage r) = some (r, false)) ∧
   (∀ l : Layout, layoutWellFormed l = true →
     parseLayout (layoutImage l) = some l ∧ (layoutImage l).length = 69)) ∧
  (∀ bytes : List Byte,
    (bytes.length = recordBytes .channels → (parseChannel bytes ≠ none ↔ ∃ r : ChannelRec,
      channelImage r = bytes ∧ 2 ≤ r.width ∧ r.width ≤ 16384 ∧ 2 ≤ r.height ∧ r.height ≤ 16384)) ∧
    (bytes.length = recordBytes .authority →
      (parseAuthority bytes ≠ none ↔ ∃ r : Fin 4, authorityImage r = bytes)) ∧
    (bytes.length = recordBytes .heads →
      (parseHead bytes ≠ none ↔ ∃ r : HeadRec, headImage r = bytes ∧ r.InRange)) ∧
    (bytes.length = recordBytes .monitors → (parseMonitor bytes ≠ none ↔ ∃ r : MonitorRec,
      monitorImage r = bytes ∧ ({ r with refresh := 60 } : MonitorRec).InRange)) ∧
    (bytes.length = recordBytes .presets →
      (parsePreset bytes ≠ none ↔ ∃ r : Preset, presetImage r = bytes ∧ r.InRange)) ∧
    (bytes.length = recordBytes .hotkeys →
      (parseHotkey bytes ≠ none ↔ ∃ r : HotkeyEntry, hotkeyImage r = bytes ∧ r.InRange)) ∧
    (bytes.length = recordBytes .keymaps → (parseKeymap bytes ≠ none ↔ ∃ r : Keymap,
      keymapImage r = bytes ∧ r.length ≤ 64 ∧ (r.map (·.1)).Nodup ∧
      ∀ a ∈ r, isKeyCode a.1 = true ∧
        ∀ t, a.2 = some t → isKeyCode t = true ∧ isModifier a.1 = isModifier t)) ∧
    (bytes.length = recordBytes .macros → (parseMacro bytes ≠ none ↔ ∃ r : MacroRec,
      macroImage r = bytes ∧ 1 ≤ r.steps.length ∧ r.steps.length ≤ 64 ∧
      ∀ k, (.press k ∈ r.steps ∨ .release k ∈ r.steps ∨ .tap k ∈ r.steps) →
        isKeyCode k = true)) ∧
    parseBallistics bytes ≠ none ∧
    (bytes.length = recordBytes .desk → (parseDesk bytes ≠ none ↔ ∃ r : Desk,
      deskImage r = bytes ∧ (r.attentionCode = 0 ∨ isOrdinary r.attentionCode = true) ∧
      r.alertSet.getLsbD 23 = false ∧ r.retainSet.getLsbD 23 = false)) ∧
    (bytes.length = 69 →
      (parseLayout bytes ≠ none ↔ ∃ l, layoutImage l = bytes ∧ layoutWellFormed l = true)))

/-- The invariants hold of the state after reset (with the factory store of log 1), and its queue of waiting commands is empty
(the model's choice, log 11). -/
def Obligations.ResetMeetsInvariants : Prop :=
  KeysSound State.reset ∧ ButtonsSound State.reset ∧ CodesSound State.reset ∧
  DeskInvariant State.reset ∧ LayoutsPass State.reset ∧
  PolicyOnce State.reset ∧ State.reset.pending = []

end Statements
end

