-- ==== Sys2Proof/Laws/State.lean ====
section
/-! SUPPORT. One lemma per field per update of State: what each named update leaves unchanged, and what it writes. -/

namespace Sys2Proof.Machine

/-! ## Fields an update leaves -/

@[simp] theorem State.setLink_tables (s : State) (c : Chan) (l : Link) : (s.setLink c l).tables = s.tables := rfl
@[simp] theorem State.setLink_console (s : State) (c : Chan) (l : Link) : (s.setLink c l).console = s.console := rfl
@[simp] theorem State.setLink_router (s : State) (c : Chan) (l : Link) : (s.setLink c l).router = s.router := rfl
@[simp] theorem State.setLink_attention (s : State) (c : Chan) (l : Link) : (s.setLink c l).attention = s.attention := rfl
@[simp] theorem State.setLink_focus (s : State) (c : Chan) (l : Link) : (s.setLink c l).focus = s.focus := rfl
@[simp] theorem State.setLink_pointer (s : State) (c : Chan) (l : Link) : (s.setLink c l).pointer = s.pointer := rfl
@[simp] theorem State.setLink_display (s : State) (c : Chan) (l : Link) : (s.setLink c l).display = s.display := rfl
@[simp] theorem State.setLink_player (s : State) (c : Chan) (l : Link) : (s.setLink c l).player = s.player := rfl
@[simp] theorem State.setLink_mgmt (s : State) (c : Chan) (l : Link) : (s.setLink c l).mgmt = s.mgmt := rfl
@[simp] theorem State.setLink_skipped (s : State) (c : Chan) (l : Link) : (s.setLink c l).skipped = s.skipped := rfl
@[simp] theorem State.setLink_store (s : State) (c : Chan) (l : Link) : (s.setLink c l).store = s.store := rfl
@[simp] theorem State.setLink_free (s : State) (c : Chan) (l : Link) : (s.setLink c l).free = s.free := rfl
@[simp] theorem State.setLink_sent (s : State) (c : Chan) (l : Link) : (s.setLink c l).sent = s.sent := rfl
@[simp] theorem State.setLink_pending (s : State) (c : Chan) (l : Link) : (s.setLink c l).pending = s.pending := rfl

@[simp] theorem State.setFocus_tables (s : State) (f : Focus) : (s.setFocus f).tables = s.tables := rfl
@[simp] theorem State.setFocus_console (s : State) (f : Focus) : (s.setFocus f).console = s.console := rfl
@[simp] theorem State.setFocus_router (s : State) (f : Focus) : (s.setFocus f).router = s.router := rfl
@[simp] theorem State.setFocus_attention (s : State) (f : Focus) : (s.setFocus f).attention = s.attention := rfl
@[simp] theorem State.setFocus_pointer (s : State) (f : Focus) : (s.setFocus f).pointer = s.pointer := rfl
@[simp] theorem State.setFocus_display (s : State) (f : Focus) : (s.setFocus f).display = s.display := rfl
@[simp] theorem State.setFocus_links (s : State) (f : Focus) : (s.setFocus f).links = s.links := rfl
@[simp] theorem State.setFocus_player (s : State) (f : Focus) : (s.setFocus f).player = s.player := rfl
@[simp] theorem State.setFocus_mgmt (s : State) (f : Focus) : (s.setFocus f).mgmt = s.mgmt := rfl
@[simp] theorem State.setFocus_skipped (s : State) (f : Focus) : (s.setFocus f).skipped = s.skipped := rfl
@[simp] theorem State.setFocus_store (s : State) (f : Focus) : (s.setFocus f).store = s.store := rfl
@[simp] theorem State.setFocus_free (s : State) (f : Focus) : (s.setFocus f).free = s.free := rfl
@[simp] theorem State.setFocus_sent (s : State) (f : Focus) : (s.setFocus f).sent = s.sent := rfl
@[simp] theorem State.setFocus_pending (s : State) (f : Focus) : (s.setFocus f).pending = s.pending := rfl

@[simp] theorem State.setPointer_tables (s : State) (p : Pointer) : (s.setPointer p).tables = s.tables := rfl
@[simp] theorem State.setPointer_console (s : State) (p : Pointer) : (s.setPointer p).console = s.console := rfl
@[simp] theorem State.setPointer_router (s : State) (p : Pointer) : (s.setPointer p).router = s.router := rfl
@[simp] theorem State.setPointer_attention (s : State) (p : Pointer) : (s.setPointer p).attention = s.attention := rfl
@[simp] theorem State.setPointer_focus (s : State) (p : Pointer) : (s.setPointer p).focus = s.focus := rfl
@[simp] theorem State.setPointer_display (s : State) (p : Pointer) : (s.setPointer p).display = s.display := rfl
@[simp] theorem State.setPointer_links (s : State) (p : Pointer) : (s.setPointer p).links = s.links := rfl
@[simp] theorem State.setPointer_player (s : State) (p : Pointer) : (s.setPointer p).player = s.player := rfl
@[simp] theorem State.setPointer_mgmt (s : State) (p : Pointer) : (s.setPointer p).mgmt = s.mgmt := rfl
@[simp] theorem State.setPointer_skipped (s : State) (p : Pointer) : (s.setPointer p).skipped = s.skipped := rfl
@[simp] theorem State.setPointer_store (s : State) (p : Pointer) : (s.setPointer p).store = s.store := rfl
@[simp] theorem State.setPointer_free (s : State) (p : Pointer) : (s.setPointer p).free = s.free := rfl
@[simp] theorem State.setPointer_sent (s : State) (p : Pointer) : (s.setPointer p).sent = s.sent := rfl
@[simp] theorem State.setPointer_pending (s : State) (p : Pointer) : (s.setPointer p).pending = s.pending := rfl

@[simp] theorem State.setMgmt_tables (s : State) (m : Mgmt) : (s.setMgmt m).tables = s.tables := rfl
@[simp] theorem State.setMgmt_console (s : State) (m : Mgmt) : (s.setMgmt m).console = s.console := rfl
@[simp] theorem State.setMgmt_router (s : State) (m : Mgmt) : (s.setMgmt m).router = s.router := rfl
@[simp] theorem State.setMgmt_attention (s : State) (m : Mgmt) : (s.setMgmt m).attention = s.attention := rfl
@[simp] theorem State.setMgmt_focus (s : State) (m : Mgmt) : (s.setMgmt m).focus = s.focus := rfl
@[simp] theorem State.setMgmt_pointer (s : State) (m : Mgmt) : (s.setMgmt m).pointer = s.pointer := rfl
@[simp] theorem State.setMgmt_display (s : State) (m : Mgmt) : (s.setMgmt m).display = s.display := rfl
@[simp] theorem State.setMgmt_links (s : State) (m : Mgmt) : (s.setMgmt m).links = s.links := rfl
@[simp] theorem State.setMgmt_player (s : State) (m : Mgmt) : (s.setMgmt m).player = s.player := rfl
@[simp] theorem State.setMgmt_skipped (s : State) (m : Mgmt) : (s.setMgmt m).skipped = s.skipped := rfl
@[simp] theorem State.setMgmt_store (s : State) (m : Mgmt) : (s.setMgmt m).store = s.store := rfl
@[simp] theorem State.setMgmt_free (s : State) (m : Mgmt) : (s.setMgmt m).free = s.free := rfl
@[simp] theorem State.setMgmt_sent (s : State) (m : Mgmt) : (s.setMgmt m).sent = s.sent := rfl
@[simp] theorem State.setMgmt_pending (s : State) (m : Mgmt) : (s.setMgmt m).pending = s.pending := rfl

@[simp] theorem State.setEntries_tables (s : State) (es : List KeyEntry) : (s.setEntries es).tables = s.tables := rfl
@[simp] theorem State.setEntries_console (s : State) (es : List KeyEntry) : (s.setEntries es).console = s.console := rfl
@[simp] theorem State.setEntries_attention (s : State) (es : List KeyEntry) : (s.setEntries es).attention = s.attention := rfl
@[simp] theorem State.setEntries_focus (s : State) (es : List KeyEntry) : (s.setEntries es).focus = s.focus := rfl
@[simp] theorem State.setEntries_pointer (s : State) (es : List KeyEntry) : (s.setEntries es).pointer = s.pointer := rfl
@[simp] theorem State.setEntries_display (s : State) (es : List KeyEntry) : (s.setEntries es).display = s.display := rfl
@[simp] theorem State.setEntries_links (s : State) (es : List KeyEntry) : (s.setEntries es).links = s.links := rfl
@[simp] theorem State.setEntries_player (s : State) (es : List KeyEntry) : (s.setEntries es).player = s.player := rfl
@[simp] theorem State.setEntries_mgmt (s : State) (es : List KeyEntry) : (s.setEntries es).mgmt = s.mgmt := rfl
@[simp] theorem State.setEntries_skipped (s : State) (es : List KeyEntry) : (s.setEntries es).skipped = s.skipped := rfl
@[simp] theorem State.setEntries_store (s : State) (es : List KeyEntry) : (s.setEntries es).store = s.store := rfl
@[simp] theorem State.setEntries_free (s : State) (es : List KeyEntry) : (s.setEntries es).free = s.free := rfl
@[simp] theorem State.setEntries_sent (s : State) (es : List KeyEntry) : (s.setEntries es).sent = s.sent := rfl
@[simp] theorem State.setEntries_pending (s : State) (es : List KeyEntry) : (s.setEntries es).pending = s.pending := rfl

@[simp] theorem State.setCounts_tables (s : State) (c : Chan) (m : Counts) : (s.setCounts c m).tables = s.tables := rfl
@[simp] theorem State.setCounts_console (s : State) (c : Chan) (m : Counts) : (s.setCounts c m).console = s.console := rfl
@[simp] theorem State.setCounts_attention (s : State) (c : Chan) (m : Counts) : (s.setCounts c m).attention = s.attention := rfl
@[simp] theorem State.setCounts_focus (s : State) (c : Chan) (m : Counts) : (s.setCounts c m).focus = s.focus := rfl
@[simp] theorem State.setCounts_pointer (s : State) (c : Chan) (m : Counts) : (s.setCounts c m).pointer = s.pointer := rfl
@[simp] theorem State.setCounts_display (s : State) (c : Chan) (m : Counts) : (s.setCounts c m).display = s.display := rfl
@[simp] theorem State.setCounts_links (s : State) (c : Chan) (m : Counts) : (s.setCounts c m).links = s.links := rfl
@[simp] theorem State.setCounts_player (s : State) (c : Chan) (m : Counts) : (s.setCounts c m).player = s.player := rfl
@[simp] theorem State.setCounts_mgmt (s : State) (c : Chan) (m : Counts) : (s.setCounts c m).mgmt = s.mgmt := rfl
@[simp] theorem State.setCounts_skipped (s : State) (c : Chan) (m : Counts) : (s.setCounts c m).skipped = s.skipped := rfl
@[simp] theorem State.setCounts_store (s : State) (c : Chan) (m : Counts) : (s.setCounts c m).store = s.store := rfl
@[simp] theorem State.setCounts_free (s : State) (c : Chan) (m : Counts) : (s.setCounts c m).free = s.free := rfl
@[simp] theorem State.setCounts_sent (s : State) (c : Chan) (m : Counts) : (s.setCounts c m).sent = s.sent := rfl
@[simp] theorem State.setCounts_pending (s : State) (c : Chan) (m : Counts) : (s.setCounts c m).pending = s.pending := rfl

@[simp] theorem State.setHeld_tables (s : State) (c : Chan) (v : Vector Bool 5) : (s.setHeld c v).tables = s.tables := rfl
@[simp] theorem State.setHeld_console (s : State) (c : Chan) (v : Vector Bool 5) : (s.setHeld c v).console = s.console := rfl
@[simp] theorem State.setHeld_router (s : State) (c : Chan) (v : Vector Bool 5) : (s.setHeld c v).router = s.router := rfl
@[simp] theorem State.setHeld_attention (s : State) (c : Chan) (v : Vector Bool 5) : (s.setHeld c v).attention = s.attention := rfl
@[simp] theorem State.setHeld_focus (s : State) (c : Chan) (v : Vector Bool 5) : (s.setHeld c v).focus = s.focus := rfl
@[simp] theorem State.setHeld_display (s : State) (c : Chan) (v : Vector Bool 5) : (s.setHeld c v).display = s.display := rfl
@[simp] theorem State.setHeld_links (s : State) (c : Chan) (v : Vector Bool 5) : (s.setHeld c v).links = s.links := rfl
@[simp] theorem State.setHeld_player (s : State) (c : Chan) (v : Vector Bool 5) : (s.setHeld c v).player = s.player := rfl
@[simp] theorem State.setHeld_mgmt (s : State) (c : Chan) (v : Vector Bool 5) : (s.setHeld c v).mgmt = s.mgmt := rfl
@[simp] theorem State.setHeld_skipped (s : State) (c : Chan) (v : Vector Bool 5) : (s.setHeld c v).skipped = s.skipped := rfl
@[simp] theorem State.setHeld_store (s : State) (c : Chan) (v : Vector Bool 5) : (s.setHeld c v).store = s.store := rfl
@[simp] theorem State.setHeld_free (s : State) (c : Chan) (v : Vector Bool 5) : (s.setHeld c v).free = s.free := rfl
@[simp] theorem State.setHeld_sent (s : State) (c : Chan) (v : Vector Bool 5) : (s.setHeld c v).sent = s.sent := rfl
@[simp] theorem State.setHeld_pending (s : State) (c : Chan) (v : Vector Bool 5) : (s.setHeld c v).pending = s.pending := rfl

@[simp] theorem State.setButton_tables (s : State) (b : Button) (t : Option ButtonTarget) : (s.setButton b t).tables = s.tables := rfl
@[simp] theorem State.setButton_console (s : State) (b : Button) (t : Option ButtonTarget) : (s.setButton b t).console = s.console := rfl
@[simp] theorem State.setButton_router (s : State) (b : Button) (t : Option ButtonTarget) : (s.setButton b t).router = s.router := rfl
@[simp] theorem State.setButton_attention (s : State) (b : Button) (t : Option ButtonTarget) : (s.setButton b t).attention = s.attention := rfl
@[simp] theorem State.setButton_focus (s : State) (b : Button) (t : Option ButtonTarget) : (s.setButton b t).focus = s.focus := rfl
@[simp] theorem State.setButton_display (s : State) (b : Button) (t : Option ButtonTarget) : (s.setButton b t).display = s.display := rfl
@[simp] theorem State.setButton_links (s : State) (b : Button) (t : Option ButtonTarget) : (s.setButton b t).links = s.links := rfl
@[simp] theorem State.setButton_player (s : State) (b : Button) (t : Option ButtonTarget) : (s.setButton b t).player = s.player := rfl
@[simp] theorem State.setButton_mgmt (s : State) (b : Button) (t : Option ButtonTarget) : (s.setButton b t).mgmt = s.mgmt := rfl
@[simp] theorem State.setButton_skipped (s : State) (b : Button) (t : Option ButtonTarget) : (s.setButton b t).skipped = s.skipped := rfl
@[simp] theorem State.setButton_store (s : State) (b : Button) (t : Option ButtonTarget) : (s.setButton b t).store = s.store := rfl
@[simp] theorem State.setButton_free (s : State) (b : Button) (t : Option ButtonTarget) : (s.setButton b t).free = s.free := rfl
@[simp] theorem State.setButton_sent (s : State) (b : Button) (t : Option ButtonTarget) : (s.setButton b t).sent = s.sent := rfl
@[simp] theorem State.setButton_pending (s : State) (b : Button) (t : Option ButtonTarget) : (s.setButton b t).pending = s.pending := rfl

@[simp] theorem State.setMonitorRun_tables (s : State) (m : Monitor) (r : MonitorRun) : (s.setMonitorRun m r).tables = s.tables := rfl
@[simp] theorem State.setMonitorRun_console (s : State) (m : Monitor) (r : MonitorRun) : (s.setMonitorRun m r).console = s.console := rfl
@[simp] theorem State.setMonitorRun_router (s : State) (m : Monitor) (r : MonitorRun) : (s.setMonitorRun m r).router = s.router := rfl
@[simp] theorem State.setMonitorRun_attention (s : State) (m : Monitor) (r : MonitorRun) : (s.setMonitorRun m r).attention = s.attention := rfl
@[simp] theorem State.setMonitorRun_focus (s : State) (m : Monitor) (r : MonitorRun) : (s.setMonitorRun m r).focus = s.focus := rfl
@[simp] theorem State.setMonitorRun_pointer (s : State) (m : Monitor) (r : MonitorRun) : (s.setMonitorRun m r).pointer = s.pointer := rfl
@[simp] theorem State.setMonitorRun_links (s : State) (m : Monitor) (r : MonitorRun) : (s.setMonitorRun m r).links = s.links := rfl
@[simp] theorem State.setMonitorRun_player (s : State) (m : Monitor) (r : MonitorRun) : (s.setMonitorRun m r).player = s.player := rfl
@[simp] theorem State.setMonitorRun_mgmt (s : State) (m : Monitor) (r : MonitorRun) : (s.setMonitorRun m r).mgmt = s.mgmt := rfl
@[simp] theorem State.setMonitorRun_skipped (s : State) (m : Monitor) (r : MonitorRun) : (s.setMonitorRun m r).skipped = s.skipped := rfl
@[simp] theorem State.setMonitorRun_store (s : State) (m : Monitor) (r : MonitorRun) : (s.setMonitorRun m r).store = s.store := rfl
@[simp] theorem State.setMonitorRun_free (s : State) (m : Monitor) (r : MonitorRun) : (s.setMonitorRun m r).free = s.free := rfl
@[simp] theorem State.setMonitorRun_sent (s : State) (m : Monitor) (r : MonitorRun) : (s.setMonitorRun m r).sent = s.sent := rfl
@[simp] theorem State.setMonitorRun_pending (s : State) (m : Monitor) (r : MonitorRun) : (s.setMonitorRun m r).pending = s.pending := rfl

@[simp] theorem State.emit_tables (s : State) (o : Sent) : (s.emit o).tables = s.tables := rfl
@[simp] theorem State.emit_console (s : State) (o : Sent) : (s.emit o).console = s.console := rfl
@[simp] theorem State.emit_router (s : State) (o : Sent) : (s.emit o).router = s.router := rfl
@[simp] theorem State.emit_attention (s : State) (o : Sent) : (s.emit o).attention = s.attention := rfl
@[simp] theorem State.emit_focus (s : State) (o : Sent) : (s.emit o).focus = s.focus := rfl
@[simp] theorem State.emit_pointer (s : State) (o : Sent) : (s.emit o).pointer = s.pointer := rfl
@[simp] theorem State.emit_display (s : State) (o : Sent) : (s.emit o).display = s.display := rfl
@[simp] theorem State.emit_links (s : State) (o : Sent) : (s.emit o).links = s.links := rfl
@[simp] theorem State.emit_player (s : State) (o : Sent) : (s.emit o).player = s.player := rfl
@[simp] theorem State.emit_mgmt (s : State) (o : Sent) : (s.emit o).mgmt = s.mgmt := rfl
@[simp] theorem State.emit_skipped (s : State) (o : Sent) : (s.emit o).skipped = s.skipped := rfl
@[simp] theorem State.emit_store (s : State) (o : Sent) : (s.emit o).store = s.store := rfl
@[simp] theorem State.emit_free (s : State) (o : Sent) : (s.emit o).free = s.free := rfl
@[simp] theorem State.emit_pending (s : State) (o : Sent) : (s.emit o).pending = s.pending := rfl

@[simp] theorem State.putKey_tables (s : State) (p : Port) (k : Code) (t : KeyTarget) : (s.putKey p k t).tables = s.tables := rfl
@[simp] theorem State.putKey_console (s : State) (p : Port) (k : Code) (t : KeyTarget) : (s.putKey p k t).console = s.console := rfl
@[simp] theorem State.putKey_attention (s : State) (p : Port) (k : Code) (t : KeyTarget) : (s.putKey p k t).attention = s.attention := rfl
@[simp] theorem State.putKey_focus (s : State) (p : Port) (k : Code) (t : KeyTarget) : (s.putKey p k t).focus = s.focus := rfl
@[simp] theorem State.putKey_pointer (s : State) (p : Port) (k : Code) (t : KeyTarget) : (s.putKey p k t).pointer = s.pointer := rfl
@[simp] theorem State.putKey_display (s : State) (p : Port) (k : Code) (t : KeyTarget) : (s.putKey p k t).display = s.display := rfl
@[simp] theorem State.putKey_links (s : State) (p : Port) (k : Code) (t : KeyTarget) : (s.putKey p k t).links = s.links := rfl
@[simp] theorem State.putKey_player (s : State) (p : Port) (k : Code) (t : KeyTarget) : (s.putKey p k t).player = s.player := rfl
@[simp] theorem State.putKey_mgmt (s : State) (p : Port) (k : Code) (t : KeyTarget) : (s.putKey p k t).mgmt = s.mgmt := rfl
@[simp] theorem State.putKey_skipped (s : State) (p : Port) (k : Code) (t : KeyTarget) : (s.putKey p k t).skipped = s.skipped := rfl
@[simp] theorem State.putKey_store (s : State) (p : Port) (k : Code) (t : KeyTarget) : (s.putKey p k t).store = s.store := rfl
@[simp] theorem State.putKey_free (s : State) (p : Port) (k : Code) (t : KeyTarget) : (s.putKey p k t).free = s.free := rfl
@[simp] theorem State.putKey_sent (s : State) (p : Port) (k : Code) (t : KeyTarget) : (s.putKey p k t).sent = s.sent := rfl
@[simp] theorem State.putKey_pending (s : State) (p : Port) (k : Code) (t : KeyTarget) : (s.putKey p k t).pending = s.pending := rfl

@[simp] theorem State.targetKey_tables (s : State) (p : Port) (k : Code) (t : KeyTarget) : (s.targetKey p k t).tables = s.tables := rfl
@[simp] theorem State.targetKey_console (s : State) (p : Port) (k : Code) (t : KeyTarget) : (s.targetKey p k t).console = s.console := rfl
@[simp] theorem State.targetKey_attention (s : State) (p : Port) (k : Code) (t : KeyTarget) : (s.targetKey p k t).attention = s.attention := rfl
@[simp] theorem State.targetKey_focus (s : State) (p : Port) (k : Code) (t : KeyTarget) : (s.targetKey p k t).focus = s.focus := rfl
@[simp] theorem State.targetKey_pointer (s : State) (p : Port) (k : Code) (t : KeyTarget) : (s.targetKey p k t).pointer = s.pointer := rfl
@[simp] theorem State.targetKey_display (s : State) (p : Port) (k : Code) (t : KeyTarget) : (s.targetKey p k t).display = s.display := rfl
@[simp] theorem State.targetKey_links (s : State) (p : Port) (k : Code) (t : KeyTarget) : (s.targetKey p k t).links = s.links := rfl
@[simp] theorem State.targetKey_player (s : State) (p : Port) (k : Code) (t : KeyTarget) : (s.targetKey p k t).player = s.player := rfl
@[simp] theorem State.targetKey_mgmt (s : State) (p : Port) (k : Code) (t : KeyTarget) : (s.targetKey p k t).mgmt = s.mgmt := rfl
@[simp] theorem State.targetKey_skipped (s : State) (p : Port) (k : Code) (t : KeyTarget) : (s.targetKey p k t).skipped = s.skipped := rfl
@[simp] theorem State.targetKey_store (s : State) (p : Port) (k : Code) (t : KeyTarget) : (s.targetKey p k t).store = s.store := rfl
@[simp] theorem State.targetKey_free (s : State) (p : Port) (k : Code) (t : KeyTarget) : (s.targetKey p k t).free = s.free := rfl
@[simp] theorem State.targetKey_sent (s : State) (p : Port) (k : Code) (t : KeyTarget) : (s.targetKey p k t).sent = s.sent := rfl
@[simp] theorem State.targetKey_pending (s : State) (p : Port) (k : Code) (t : KeyTarget) : (s.targetKey p k t).pending = s.pending := rfl

@[simp] theorem State.dropKey_tables (s : State) (p : Port) (k : Code) : (s.dropKey p k).tables = s.tables := rfl
@[simp] theorem State.dropKey_console (s : State) (p : Port) (k : Code) : (s.dropKey p k).console = s.console := rfl
@[simp] theorem State.dropKey_attention (s : State) (p : Port) (k : Code) : (s.dropKey p k).attention = s.attention := rfl
@[simp] theorem State.dropKey_focus (s : State) (p : Port) (k : Code) : (s.dropKey p k).focus = s.focus := rfl
@[simp] theorem State.dropKey_pointer (s : State) (p : Port) (k : Code) : (s.dropKey p k).pointer = s.pointer := rfl
@[simp] theorem State.dropKey_display (s : State) (p : Port) (k : Code) : (s.dropKey p k).display = s.display := rfl
@[simp] theorem State.dropKey_links (s : State) (p : Port) (k : Code) : (s.dropKey p k).links = s.links := rfl
@[simp] theorem State.dropKey_player (s : State) (p : Port) (k : Code) : (s.dropKey p k).player = s.player := rfl
@[simp] theorem State.dropKey_mgmt (s : State) (p : Port) (k : Code) : (s.dropKey p k).mgmt = s.mgmt := rfl
@[simp] theorem State.dropKey_skipped (s : State) (p : Port) (k : Code) : (s.dropKey p k).skipped = s.skipped := rfl
@[simp] theorem State.dropKey_store (s : State) (p : Port) (k : Code) : (s.dropKey p k).store = s.store := rfl
@[simp] theorem State.dropKey_free (s : State) (p : Port) (k : Code) : (s.dropKey p k).free = s.free := rfl
@[simp] theorem State.dropKey_sent (s : State) (p : Port) (k : Code) : (s.dropKey p k).sent = s.sent := rfl
@[simp] theorem State.dropKey_pending (s : State) (p : Port) (k : Code) : (s.dropKey p k).pending = s.pending := rfl

@[simp] theorem State.setSlot_tables (s : State) (c : Chan) (r : Option Response) : (s.setSlot c r).tables = s.tables := rfl
@[simp] theorem State.setSlot_console (s : State) (c : Chan) (r : Option Response) : (s.setSlot c r).console = s.console := rfl
@[simp] theorem State.setSlot_router (s : State) (c : Chan) (r : Option Response) : (s.setSlot c r).router = s.router := rfl
@[simp] theorem State.setSlot_attention (s : State) (c : Chan) (r : Option Response) : (s.setSlot c r).attention = s.attention := rfl
@[simp] theorem State.setSlot_focus (s : State) (c : Chan) (r : Option Response) : (s.setSlot c r).focus = s.focus := rfl
@[simp] theorem State.setSlot_pointer (s : State) (c : Chan) (r : Option Response) : (s.setSlot c r).pointer = s.pointer := rfl
@[simp] theorem State.setSlot_display (s : State) (c : Chan) (r : Option Response) : (s.setSlot c r).display = s.display := rfl
@[simp] theorem State.setSlot_links (s : State) (c : Chan) (r : Option Response) : (s.setSlot c r).links = s.links := rfl
@[simp] theorem State.setSlot_player (s : State) (c : Chan) (r : Option Response) : (s.setSlot c r).player = s.player := rfl
@[simp] theorem State.setSlot_skipped (s : State) (c : Chan) (r : Option Response) : (s.setSlot c r).skipped = s.skipped := rfl
@[simp] theorem State.setSlot_store (s : State) (c : Chan) (r : Option Response) : (s.setSlot c r).store = s.store := rfl
@[simp] theorem State.setSlot_free (s : State) (c : Chan) (r : Option Response) : (s.setSlot c r).free = s.free := rfl
@[simp] theorem State.setSlot_sent (s : State) (c : Chan) (r : Option Response) : (s.setSlot c r).sent = s.sent := rfl
@[simp] theorem State.setSlot_pending (s : State) (c : Chan) (r : Option Response) : (s.setSlot c r).pending = s.pending := rfl

@[simp] theorem State.setHead_tables (s : State) (h : Head) (d : Option (Nat × Nat)) : (s.setHead h d).tables = s.tables := rfl
@[simp] theorem State.setHead_console (s : State) (h : Head) (d : Option (Nat × Nat)) : (s.setHead h d).console = s.console := rfl
@[simp] theorem State.setHead_router (s : State) (h : Head) (d : Option (Nat × Nat)) : (s.setHead h d).router = s.router := rfl
@[simp] theorem State.setHead_attention (s : State) (h : Head) (d : Option (Nat × Nat)) : (s.setHead h d).attention = s.attention := rfl
@[simp] theorem State.setHead_focus (s : State) (h : Head) (d : Option (Nat × Nat)) : (s.setHead h d).focus = s.focus := rfl
@[simp] theorem State.setHead_pointer (s : State) (h : Head) (d : Option (Nat × Nat)) : (s.setHead h d).pointer = s.pointer := rfl
@[simp] theorem State.setHead_links (s : State) (h : Head) (d : Option (Nat × Nat)) : (s.setHead h d).links = s.links := rfl
@[simp] theorem State.setHead_player (s : State) (h : Head) (d : Option (Nat × Nat)) : (s.setHead h d).player = s.player := rfl
@[simp] theorem State.setHead_mgmt (s : State) (h : Head) (d : Option (Nat × Nat)) : (s.setHead h d).mgmt = s.mgmt := rfl
@[simp] theorem State.setHead_skipped (s : State) (h : Head) (d : Option (Nat × Nat)) : (s.setHead h d).skipped = s.skipped := rfl
@[simp] theorem State.setHead_store (s : State) (h : Head) (d : Option (Nat × Nat)) : (s.setHead h d).store = s.store := rfl
@[simp] theorem State.setHead_free (s : State) (h : Head) (d : Option (Nat × Nat)) : (s.setHead h d).free = s.free := rfl
@[simp] theorem State.setHead_sent (s : State) (h : Head) (d : Option (Nat × Nat)) : (s.setHead h d).sent = s.sent := rfl
@[simp] theorem State.setHead_pending (s : State) (h : Head) (d : Option (Nat × Nat)) : (s.setHead h d).pending = s.pending := rfl

@[simp] theorem State.setPtr_tables (s : State) (p : PointerPort) : (s.setPtr p).tables = s.tables := rfl
@[simp] theorem State.setPtr_router (s : State) (p : PointerPort) : (s.setPtr p).router = s.router := rfl
@[simp] theorem State.setPtr_attention (s : State) (p : PointerPort) : (s.setPtr p).attention = s.attention := rfl
@[simp] theorem State.setPtr_focus (s : State) (p : PointerPort) : (s.setPtr p).focus = s.focus := rfl
@[simp] theorem State.setPtr_pointer (s : State) (p : PointerPort) : (s.setPtr p).pointer = s.pointer := rfl
@[simp] theorem State.setPtr_display (s : State) (p : PointerPort) : (s.setPtr p).display = s.display := rfl
@[simp] theorem State.setPtr_links (s : State) (p : PointerPort) : (s.setPtr p).links = s.links := rfl
@[simp] theorem State.setPtr_player (s : State) (p : PointerPort) : (s.setPtr p).player = s.player := rfl
@[simp] theorem State.setPtr_mgmt (s : State) (p : PointerPort) : (s.setPtr p).mgmt = s.mgmt := rfl
@[simp] theorem State.setPtr_skipped (s : State) (p : PointerPort) : (s.setPtr p).skipped = s.skipped := rfl
@[simp] theorem State.setPtr_store (s : State) (p : PointerPort) : (s.setPtr p).store = s.store := rfl
@[simp] theorem State.setPtr_free (s : State) (p : PointerPort) : (s.setPtr p).free = s.free := rfl
@[simp] theorem State.setPtr_sent (s : State) (p : PointerPort) : (s.setPtr p).sent = s.sent := rfl
@[simp] theorem State.setPtr_pending (s : State) (p : PointerPort) : (s.setPtr p).pending = s.pending := rfl

@[simp] theorem State.withTables_console (s : State) (T : Tables) : (s.withTables T).console = s.console := rfl
@[simp] theorem State.withTables_router (s : State) (T : Tables) : (s.withTables T).router = s.router := rfl
@[simp] theorem State.withTables_attention (s : State) (T : Tables) : (s.withTables T).attention = s.attention := rfl
@[simp] theorem State.withTables_focus (s : State) (T : Tables) : (s.withTables T).focus = s.focus := rfl
@[simp] theorem State.withTables_pointer (s : State) (T : Tables) : (s.withTables T).pointer = s.pointer := rfl
@[simp] theorem State.withTables_display (s : State) (T : Tables) : (s.withTables T).display = s.display := rfl
@[simp] theorem State.withTables_links (s : State) (T : Tables) : (s.withTables T).links = s.links := rfl
@[simp] theorem State.withTables_player (s : State) (T : Tables) : (s.withTables T).player = s.player := rfl
@[simp] theorem State.withTables_mgmt (s : State) (T : Tables) : (s.withTables T).mgmt = s.mgmt := rfl
@[simp] theorem State.withTables_skipped (s : State) (T : Tables) : (s.withTables T).skipped = s.skipped := rfl
@[simp] theorem State.withTables_store (s : State) (T : Tables) : (s.withTables T).store = s.store := rfl
@[simp] theorem State.withTables_free (s : State) (T : Tables) : (s.withTables T).free = s.free := rfl
@[simp] theorem State.withTables_sent (s : State) (T : Tables) : (s.withTables T).sent = s.sent := rfl
@[simp] theorem State.withTables_pending (s : State) (T : Tables) : (s.withTables T).pending = s.pending := rfl

@[simp] theorem setPlayer_tables (s : State) (p : Option Player) : (setPlayer p s).tables = s.tables := rfl
@[simp] theorem setPlayer_console (s : State) (p : Option Player) : (setPlayer p s).console = s.console := rfl
@[simp] theorem setPlayer_router (s : State) (p : Option Player) : (setPlayer p s).router = s.router := rfl
@[simp] theorem setPlayer_attention (s : State) (p : Option Player) : (setPlayer p s).attention = s.attention := rfl
@[simp] theorem setPlayer_focus (s : State) (p : Option Player) : (setPlayer p s).focus = s.focus := rfl
@[simp] theorem setPlayer_pointer (s : State) (p : Option Player) : (setPlayer p s).pointer = s.pointer := rfl
@[simp] theorem setPlayer_display (s : State) (p : Option Player) : (setPlayer p s).display = s.display := rfl
@[simp] theorem setPlayer_links (s : State) (p : Option Player) : (setPlayer p s).links = s.links := rfl
@[simp] theorem setPlayer_mgmt (s : State) (p : Option Player) : (setPlayer p s).mgmt = s.mgmt := rfl
@[simp] theorem setPlayer_skipped (s : State) (p : Option Player) : (setPlayer p s).skipped = s.skipped := rfl
@[simp] theorem setPlayer_store (s : State) (p : Option Player) : (setPlayer p s).store = s.store := rfl
@[simp] theorem setPlayer_free (s : State) (p : Option Player) : (setPlayer p s).free = s.free := rfl
@[simp] theorem setPlayer_sent (s : State) (p : Option Player) : (setPlayer p s).sent = s.sent := rfl
@[simp] theorem setPlayer_pending (s : State) (p : Option Player) : (setPlayer p s).pending = s.pending := rfl

@[simp] theorem beginMacro_tables (s : State) (p : Player) : (beginMacro p s).tables = s.tables := rfl
@[simp] theorem beginMacro_console (s : State) (p : Player) : (beginMacro p s).console = s.console := rfl
@[simp] theorem beginMacro_router (s : State) (p : Player) : (beginMacro p s).router = s.router := rfl
@[simp] theorem beginMacro_attention (s : State) (p : Player) : (beginMacro p s).attention = s.attention := rfl
@[simp] theorem beginMacro_focus (s : State) (p : Player) : (beginMacro p s).focus = s.focus := rfl
@[simp] theorem beginMacro_pointer (s : State) (p : Player) : (beginMacro p s).pointer = s.pointer := rfl
@[simp] theorem beginMacro_display (s : State) (p : Player) : (beginMacro p s).display = s.display := rfl
@[simp] theorem beginMacro_links (s : State) (p : Player) : (beginMacro p s).links = s.links := rfl
@[simp] theorem beginMacro_mgmt (s : State) (p : Player) : (beginMacro p s).mgmt = s.mgmt := rfl
@[simp] theorem beginMacro_store (s : State) (p : Player) : (beginMacro p s).store = s.store := rfl
@[simp] theorem beginMacro_free (s : State) (p : Player) : (beginMacro p s).free = s.free := rfl
@[simp] theorem beginMacro_sent (s : State) (p : Player) : (beginMacro p s).sent = s.sent := rfl
@[simp] theorem beginMacro_pending (s : State) (p : Player) : (beginMacro p s).pending = s.pending := rfl

@[simp] theorem countSkipped_tables (s : State) : (countSkipped s).tables = s.tables := rfl
@[simp] theorem countSkipped_console (s : State) : (countSkipped s).console = s.console := rfl
@[simp] theorem countSkipped_router (s : State) : (countSkipped s).router = s.router := rfl
@[simp] theorem countSkipped_attention (s : State) : (countSkipped s).attention = s.attention := rfl
@[simp] theorem countSkipped_focus (s : State) : (countSkipped s).focus = s.focus := rfl
@[simp] theorem countSkipped_pointer (s : State) : (countSkipped s).pointer = s.pointer := rfl
@[simp] theorem countSkipped_display (s : State) : (countSkipped s).display = s.display := rfl
@[simp] theorem countSkipped_links (s : State) : (countSkipped s).links = s.links := rfl
@[simp] theorem countSkipped_player (s : State) : (countSkipped s).player = s.player := rfl
@[simp] theorem countSkipped_mgmt (s : State) : (countSkipped s).mgmt = s.mgmt := rfl
@[simp] theorem countSkipped_store (s : State) : (countSkipped s).store = s.store := rfl
@[simp] theorem countSkipped_free (s : State) : (countSkipped s).free = s.free := rfl
@[simp] theorem countSkipped_sent (s : State) : (countSkipped s).sent = s.sent := rfl
@[simp] theorem countSkipped_pending (s : State) : (countSkipped s).pending = s.pending := rfl

@[simp] theorem setAttention_tables (s : State) (a : Attention) : (setAttention a s).tables = s.tables := rfl
@[simp] theorem setAttention_console (s : State) (a : Attention) : (setAttention a s).console = s.console := rfl
@[simp] theorem setAttention_router (s : State) (a : Attention) : (setAttention a s).router = s.router := rfl
@[simp] theorem setAttention_focus (s : State) (a : Attention) : (setAttention a s).focus = s.focus := rfl
@[simp] theorem setAttention_pointer (s : State) (a : Attention) : (setAttention a s).pointer = s.pointer := rfl
@[simp] theorem setAttention_display (s : State) (a : Attention) : (setAttention a s).display = s.display := rfl
@[simp] theorem setAttention_links (s : State) (a : Attention) : (setAttention a s).links = s.links := rfl
@[simp] theorem setAttention_player (s : State) (a : Attention) : (setAttention a s).player = s.player := rfl
@[simp] theorem setAttention_mgmt (s : State) (a : Attention) : (setAttention a s).mgmt = s.mgmt := rfl
@[simp] theorem setAttention_skipped (s : State) (a : Attention) : (setAttention a s).skipped = s.skipped := rfl
@[simp] theorem setAttention_store (s : State) (a : Attention) : (setAttention a s).store = s.store := rfl
@[simp] theorem setAttention_free (s : State) (a : Attention) : (setAttention a s).free = s.free := rfl
@[simp] theorem setAttention_sent (s : State) (a : Attention) : (setAttention a s).sent = s.sent := rfl
@[simp] theorem setAttention_pending (s : State) (a : Attention) : (setAttention a s).pending = s.pending := rfl

@[simp] theorem setConfirm_tables (s : State) (cf : Option Confirm) : (setConfirm cf s).tables = s.tables := rfl
@[simp] theorem setConfirm_console (s : State) (cf : Option Confirm) : (setConfirm cf s).console = s.console := rfl
@[simp] theorem setConfirm_router (s : State) (cf : Option Confirm) : (setConfirm cf s).router = s.router := rfl
@[simp] theorem setConfirm_attention (s : State) (cf : Option Confirm) : (setConfirm cf s).attention = s.attention := rfl
@[simp] theorem setConfirm_focus (s : State) (cf : Option Confirm) : (setConfirm cf s).focus = s.focus := rfl
@[simp] theorem setConfirm_pointer (s : State) (cf : Option Confirm) : (setConfirm cf s).pointer = s.pointer := rfl
@[simp] theorem setConfirm_display (s : State) (cf : Option Confirm) : (setConfirm cf s).display = s.display := rfl
@[simp] theorem setConfirm_links (s : State) (cf : Option Confirm) : (setConfirm cf s).links = s.links := rfl
@[simp] theorem setConfirm_player (s : State) (cf : Option Confirm) : (setConfirm cf s).player = s.player := rfl
@[simp] theorem setConfirm_skipped (s : State) (cf : Option Confirm) : (setConfirm cf s).skipped = s.skipped := rfl
@[simp] theorem setConfirm_store (s : State) (cf : Option Confirm) : (setConfirm cf s).store = s.store := rfl
@[simp] theorem setConfirm_free (s : State) (cf : Option Confirm) : (setConfirm cf s).free = s.free := rfl
@[simp] theorem setConfirm_sent (s : State) (cf : Option Confirm) : (setConfirm cf s).sent = s.sent := rfl
@[simp] theorem setConfirm_pending (s : State) (cf : Option Confirm) : (setConfirm cf s).pending = s.pending := rfl

@[simp] theorem setSave_tables (s : State) (sv : Option Save) : (setSave sv s).tables = s.tables := rfl
@[simp] theorem setSave_console (s : State) (sv : Option Save) : (setSave sv s).console = s.console := rfl
@[simp] theorem setSave_router (s : State) (sv : Option Save) : (setSave sv s).router = s.router := rfl
@[simp] theorem setSave_attention (s : State) (sv : Option Save) : (setSave sv s).attention = s.attention := rfl
@[simp] theorem setSave_focus (s : State) (sv : Option Save) : (setSave sv s).focus = s.focus := rfl
@[simp] theorem setSave_pointer (s : State) (sv : Option Save) : (setSave sv s).pointer = s.pointer := rfl
@[simp] theorem setSave_display (s : State) (sv : Option Save) : (setSave sv s).display = s.display := rfl
@[simp] theorem setSave_links (s : State) (sv : Option Save) : (setSave sv s).links = s.links := rfl
@[simp] theorem setSave_player (s : State) (sv : Option Save) : (setSave sv s).player = s.player := rfl
@[simp] theorem setSave_skipped (s : State) (sv : Option Save) : (setSave sv s).skipped = s.skipped := rfl
@[simp] theorem setSave_store (s : State) (sv : Option Save) : (setSave sv s).store = s.store := rfl
@[simp] theorem setSave_free (s : State) (sv : Option Save) : (setSave sv s).free = s.free := rfl
@[simp] theorem setSave_sent (s : State) (sv : Option Save) : (setSave sv s).sent = s.sent := rfl
@[simp] theorem setSave_pending (s : State) (sv : Option Save) : (setSave sv s).pending = s.pending := rfl

@[simp] theorem setLock_tables (s : State) (t : Table) : (setLock t s).tables = s.tables := rfl
@[simp] theorem setLock_console (s : State) (t : Table) : (setLock t s).console = s.console := rfl
@[simp] theorem setLock_router (s : State) (t : Table) : (setLock t s).router = s.router := rfl
@[simp] theorem setLock_attention (s : State) (t : Table) : (setLock t s).attention = s.attention := rfl
@[simp] theorem setLock_focus (s : State) (t : Table) : (setLock t s).focus = s.focus := rfl
@[simp] theorem setLock_pointer (s : State) (t : Table) : (setLock t s).pointer = s.pointer := rfl
@[simp] theorem setLock_display (s : State) (t : Table) : (setLock t s).display = s.display := rfl
@[simp] theorem setLock_links (s : State) (t : Table) : (setLock t s).links = s.links := rfl
@[simp] theorem setLock_player (s : State) (t : Table) : (setLock t s).player = s.player := rfl
@[simp] theorem setLock_skipped (s : State) (t : Table) : (setLock t s).skipped = s.skipped := rfl
@[simp] theorem setLock_store (s : State) (t : Table) : (setLock t s).store = s.store := rfl
@[simp] theorem setLock_free (s : State) (t : Table) : (setLock t s).free = s.free := rfl
@[simp] theorem setLock_sent (s : State) (t : Table) : (setLock t s).sent = s.sent := rfl
@[simp] theorem setLock_pending (s : State) (t : Table) : (setLock t s).pending = s.pending := rfl

@[simp] theorem setPolicy_tables (s : State) (p : Policy) : (setPolicy p s).tables = s.tables := rfl
@[simp] theorem setPolicy_console (s : State) (p : Policy) : (setPolicy p s).console = s.console := rfl
@[simp] theorem setPolicy_router (s : State) (p : Policy) : (setPolicy p s).router = s.router := rfl
@[simp] theorem setPolicy_attention (s : State) (p : Policy) : (setPolicy p s).attention = s.attention := rfl
@[simp] theorem setPolicy_focus (s : State) (p : Policy) : (setPolicy p s).focus = s.focus := rfl
@[simp] theorem setPolicy_pointer (s : State) (p : Policy) : (setPolicy p s).pointer = s.pointer := rfl
@[simp] theorem setPolicy_display (s : State) (p : Policy) : (setPolicy p s).display = s.display := rfl
@[simp] theorem setPolicy_links (s : State) (p : Policy) : (setPolicy p s).links = s.links := rfl
@[simp] theorem setPolicy_player (s : State) (p : Policy) : (setPolicy p s).player = s.player := rfl
@[simp] theorem setPolicy_skipped (s : State) (p : Policy) : (setPolicy p s).skipped = s.skipped := rfl
@[simp] theorem setPolicy_store (s : State) (p : Policy) : (setPolicy p s).store = s.store := rfl
@[simp] theorem setPolicy_free (s : State) (p : Policy) : (setPolicy p s).free = s.free := rfl
@[simp] theorem setPolicy_sent (s : State) (p : Policy) : (setPolicy p s).sent = s.sent := rfl
@[simp] theorem setPolicy_pending (s : State) (p : Policy) : (setPolicy p s).pending = s.pending := rfl

@[simp] theorem requestCue_tables (s : State) (q : Cue) : (requestCue q s).tables = s.tables := rfl
@[simp] theorem requestCue_console (s : State) (q : Cue) : (requestCue q s).console = s.console := rfl
@[simp] theorem requestCue_router (s : State) (q : Cue) : (requestCue q s).router = s.router := rfl
@[simp] theorem requestCue_attention (s : State) (q : Cue) : (requestCue q s).attention = s.attention := rfl
@[simp] theorem requestCue_pointer (s : State) (q : Cue) : (requestCue q s).pointer = s.pointer := rfl
@[simp] theorem requestCue_display (s : State) (q : Cue) : (requestCue q s).display = s.display := rfl
@[simp] theorem requestCue_links (s : State) (q : Cue) : (requestCue q s).links = s.links := rfl
@[simp] theorem requestCue_player (s : State) (q : Cue) : (requestCue q s).player = s.player := rfl
@[simp] theorem requestCue_mgmt (s : State) (q : Cue) : (requestCue q s).mgmt = s.mgmt := rfl
@[simp] theorem requestCue_skipped (s : State) (q : Cue) : (requestCue q s).skipped = s.skipped := rfl
@[simp] theorem requestCue_store (s : State) (q : Cue) : (requestCue q s).store = s.store := rfl
@[simp] theorem requestCue_free (s : State) (q : Cue) : (requestCue q s).free = s.free := rfl
@[simp] theorem requestCue_sent (s : State) (q : Cue) : (requestCue q s).sent = s.sent := rfl
@[simp] theorem requestCue_pending (s : State) (q : Cue) : (requestCue q s).pending = s.pending := rfl

@[simp] theorem cancelDwell_tables (s : State) : (cancelDwell s).tables = s.tables := rfl
@[simp] theorem cancelDwell_console (s : State) : (cancelDwell s).console = s.console := rfl
@[simp] theorem cancelDwell_router (s : State) : (cancelDwell s).router = s.router := rfl
@[simp] theorem cancelDwell_attention (s : State) : (cancelDwell s).attention = s.attention := rfl
@[simp] theorem cancelDwell_pointer (s : State) : (cancelDwell s).pointer = s.pointer := rfl
@[simp] theorem cancelDwell_display (s : State) : (cancelDwell s).display = s.display := rfl
@[simp] theorem cancelDwell_links (s : State) : (cancelDwell s).links = s.links := rfl
@[simp] theorem cancelDwell_player (s : State) : (cancelDwell s).player = s.player := rfl
@[simp] theorem cancelDwell_mgmt (s : State) : (cancelDwell s).mgmt = s.mgmt := rfl
@[simp] theorem cancelDwell_skipped (s : State) : (cancelDwell s).skipped = s.skipped := rfl
@[simp] theorem cancelDwell_store (s : State) : (cancelDwell s).store = s.store := rfl
@[simp] theorem cancelDwell_free (s : State) : (cancelDwell s).free = s.free := rfl
@[simp] theorem cancelDwell_sent (s : State) : (cancelDwell s).sent = s.sent := rfl
@[simp] theorem cancelDwell_pending (s : State) : (cancelDwell s).pending = s.pending := rfl

@[simp] theorem setPointerChannel_tables (s : State) (c : Option Chan) : (setPointerChannel c s).tables = s.tables := rfl
@[simp] theorem setPointerChannel_console (s : State) (c : Option Chan) : (setPointerChannel c s).console = s.console := rfl
@[simp] theorem setPointerChannel_router (s : State) (c : Option Chan) : (setPointerChannel c s).router = s.router := rfl
@[simp] theorem setPointerChannel_attention (s : State) (c : Option Chan) : (setPointerChannel c s).attention = s.attention := rfl
@[simp] theorem setPointerChannel_focus (s : State) (c : Option Chan) : (setPointerChannel c s).focus = s.focus := rfl
@[simp] theorem setPointerChannel_display (s : State) (c : Option Chan) : (setPointerChannel c s).display = s.display := rfl
@[simp] theorem setPointerChannel_links (s : State) (c : Option Chan) : (setPointerChannel c s).links = s.links := rfl
@[simp] theorem setPointerChannel_player (s : State) (c : Option Chan) : (setPointerChannel c s).player = s.player := rfl
@[simp] theorem setPointerChannel_mgmt (s : State) (c : Option Chan) : (setPointerChannel c s).mgmt = s.mgmt := rfl
@[simp] theorem setPointerChannel_skipped (s : State) (c : Option Chan) : (setPointerChannel c s).skipped = s.skipped := rfl
@[simp] theorem setPointerChannel_store (s : State) (c : Option Chan) : (setPointerChannel c s).store = s.store := rfl
@[simp] theorem setPointerChannel_free (s : State) (c : Option Chan) : (setPointerChannel c s).free = s.free := rfl
@[simp] theorem setPointerChannel_sent (s : State) (c : Option Chan) : (setPointerChannel c s).sent = s.sent := rfl
@[simp] theorem setPointerChannel_pending (s : State) (c : Option Chan) : (setPointerChannel c s).pending = s.pending := rfl

@[simp] theorem recordFocus_tables (s : State) (n : Chan) : (recordFocus n s).tables = s.tables := rfl
@[simp] theorem recordFocus_console (s : State) (n : Chan) : (recordFocus n s).console = s.console := rfl
@[simp] theorem recordFocus_router (s : State) (n : Chan) : (recordFocus n s).router = s.router := rfl
@[simp] theorem recordFocus_attention (s : State) (n : Chan) : (recordFocus n s).attention = s.attention := rfl
@[simp] theorem recordFocus_pointer (s : State) (n : Chan) : (recordFocus n s).pointer = s.pointer := rfl
@[simp] theorem recordFocus_display (s : State) (n : Chan) : (recordFocus n s).display = s.display := rfl
@[simp] theorem recordFocus_links (s : State) (n : Chan) : (recordFocus n s).links = s.links := rfl
@[simp] theorem recordFocus_player (s : State) (n : Chan) : (recordFocus n s).player = s.player := rfl
@[simp] theorem recordFocus_mgmt (s : State) (n : Chan) : (recordFocus n s).mgmt = s.mgmt := rfl
@[simp] theorem recordFocus_skipped (s : State) (n : Chan) : (recordFocus n s).skipped = s.skipped := rfl
@[simp] theorem recordFocus_store (s : State) (n : Chan) : (recordFocus n s).store = s.store := rfl
@[simp] theorem recordFocus_free (s : State) (n : Chan) : (recordFocus n s).free = s.free := rfl
@[simp] theorem recordFocus_sent (s : State) (n : Chan) : (recordFocus n s).sent = s.sent := rfl
@[simp] theorem recordFocus_pending (s : State) (n : Chan) : (recordFocus n s).pending = s.pending := rfl

@[simp] theorem State.setKeyPort_tables (s : State) (p : Port) (k : KeyPort) : (s.setKeyPort p k).tables = s.tables := by
  cases p <;> rfl
@[simp] theorem State.setKeyPort_router (s : State) (p : Port) (k : KeyPort) : (s.setKeyPort p k).router = s.router := by
  cases p <;> rfl
@[simp] theorem State.setKeyPort_attention (s : State) (p : Port) (k : KeyPort) : (s.setKeyPort p k).attention = s.attention := by
  cases p <;> rfl
@[simp] theorem State.setKeyPort_focus (s : State) (p : Port) (k : KeyPort) : (s.setKeyPort p k).focus = s.focus := by
  cases p <;> rfl
@[simp] theorem State.setKeyPort_pointer (s : State) (p : Port) (k : KeyPort) : (s.setKeyPort p k).pointer = s.pointer := by
  cases p <;> rfl
@[simp] theorem State.setKeyPort_display (s : State) (p : Port) (k : KeyPort) : (s.setKeyPort p k).display = s.display := by
  cases p <;> rfl
@[simp] theorem State.setKeyPort_links (s : State) (p : Port) (k : KeyPort) : (s.setKeyPort p k).links = s.links := by
  cases p <;> rfl
@[simp] theorem State.setKeyPort_player (s : State) (p : Port) (k : KeyPort) : (s.setKeyPort p k).player = s.player := by
  cases p <;> rfl
@[simp] theorem State.setKeyPort_mgmt (s : State) (p : Port) (k : KeyPort) : (s.setKeyPort p k).mgmt = s.mgmt := by
  cases p <;> rfl
@[simp] theorem State.setKeyPort_skipped (s : State) (p : Port) (k : KeyPort) : (s.setKeyPort p k).skipped = s.skipped := by
  cases p <;> rfl
@[simp] theorem State.setKeyPort_store (s : State) (p : Port) (k : KeyPort) : (s.setKeyPort p k).store = s.store := by
  cases p <;> rfl
@[simp] theorem State.setKeyPort_free (s : State) (p : Port) (k : KeyPort) : (s.setKeyPort p k).free = s.free := by
  cases p <;> rfl
@[simp] theorem State.setKeyPort_sent (s : State) (p : Port) (k : KeyPort) : (s.setKeyPort p k).sent = s.sent := by
  cases p <;> rfl
@[simp] theorem State.setKeyPort_pending (s : State) (p : Port) (k : KeyPort) : (s.setKeyPort p k).pending = s.pending := by
  cases p <;> rfl
/-! ## Reading back what was written -/

@[simp] theorem State.setLink_links (s : State) (c : Chan) (l : Link) :
    (s.setLink c l).links = put s.links c l := rfl
@[simp] theorem State.setFocus_focus (s : State) (f : Focus) : (s.setFocus f).focus = f := rfl
@[simp] theorem State.setPointer_pointer (s : State) (p : Pointer) : (s.setPointer p).pointer = p := rfl
@[simp] theorem State.setMgmt_mgmt (s : State) (m : Mgmt) : (s.setMgmt m).mgmt = m := rfl
@[simp] theorem State.setEntries_entries (s : State) (es : List KeyEntry) :
    (s.setEntries es).router.entries = es := rfl
@[simp] theorem State.setCounts_entries (s : State) (c : Chan) (m : Counts) :
    (s.setCounts c m).router.entries = s.router.entries := rfl
@[simp] theorem State.setEntries_counts (s : State) (es : List KeyEntry) (c : Chan) :
    (s.setEntries es).counts c = s.counts c := rfl
@[simp] theorem State.emit_sent (s : State) (o : Sent) : (s.emit o).sent = s.sent ++ [o] := rfl
@[simp] theorem State.withTables_tables (s : State) (T : Tables) : (s.withTables T).tables = T := rfl
@[simp] theorem setPlayer_player (p : Option Player) (s : State) : (setPlayer p s).player = p := rfl
@[simp] theorem beginMacro_player (p : Player) (s : State) : (beginMacro p s).player = some p := rfl
@[simp] theorem beginMacro_skipped (p : Player) (s : State) : (beginMacro p s).skipped = 0 := rfl
@[simp] theorem countSkipped_skipped (s : State) : (countSkipped s).skipped = s.skipped + 1 := rfl
@[simp] theorem setAttention_attention (a : Attention) (s : State) : (setAttention a s).attention = a := rfl

/-- A link read after a link was written. -/
theorem State.link_setLink (s : State) (c d : Chan) (l : Link) :
    (s.setLink c l).link d = if c = d then l else s.link d := by
  simp only [State.link, State.setLink, nth_put]

@[simp] theorem State.link_setLink_same (s : State) (c : Chan) (l : Link) :
    (s.setLink c l).link c = l := by simp [State.link_setLink]

theorem State.link_setLink_other (s : State) {c d : Chan} (l : Link) (h : c ≠ d) :
    (s.setLink c l).link d = s.link d := by simp [State.link_setLink, h]

/-- Counts read after counts were written. -/
theorem State.counts_setCounts (s : State) (c d : Chan) (m : Counts) :
    (s.setCounts c m).counts d = if c = d then m else s.counts d := by
  simp only [State.counts, State.setCounts, nth_put]

@[simp] theorem State.counts_setCounts_same (s : State) (c : Chan) (m : Counts) :
    (s.setCounts c m).counts c = m := by simp [State.counts_setCounts]

/-- A button state read after one was written. -/
theorem State.held_setHeld (s : State) (c d : Chan) (v : Vector Bool 5) :
    (s.setHeld c v).held d = if c = d then v else s.held d := by
  simp only [State.held, State.setHeld, nth_put]

/-- A monitor's runtime read after one was written. -/
theorem State.monitorRun_setMonitorRun (s : State) (m k : Monitor) (r : MonitorRun) :
    (s.setMonitorRun m r).monitorRun k = if m = k then r else s.monitorRun k := by
  simp only [State.monitorRun, State.setMonitorRun, nth_put]

/-- A keyboard port read after one was written. -/
theorem State.keyPort_setKeyPort (s : State) (p q : Port) (k : KeyPort) :
    (s.setKeyPort p k).keyPort q = if p = q then k else s.keyPort q := by
  cases p <;> cases q <;> rfl

/-- A response slot read after one was written. -/
theorem State.slots_setSlot (s : State) (c d : Chan) (r : Option Response) :
    nth (s.setSlot c r).mgmt.slots d = if c = d then r else nth s.mgmt.slots d := by
  simp only [State.setSlot, State.setMgmt, nth_put]

end Sys2Proof.Machine
end

