-- ==== Sys2Proof/Laws/Frames.lean ====
section
/-! SUPPORT. Frames of the shared operations: the fields of State that each leaves unchanged. A field that is not listed is one the operation may write. -/

namespace Sys2Proof.Machine

@[simp] theorem offer_tables (s : State) (c : Chan) (i : Interface) (b : List Byte) : (offer c i b s).tables = s.tables := by
  unfold offer; split <;> rfl
@[simp] theorem offer_console (s : State) (c : Chan) (i : Interface) (b : List Byte) : (offer c i b s).console = s.console := by
  unfold offer; split <;> rfl
@[simp] theorem offer_router (s : State) (c : Chan) (i : Interface) (b : List Byte) : (offer c i b s).router = s.router := by
  unfold offer; split <;> rfl
@[simp] theorem offer_attention (s : State) (c : Chan) (i : Interface) (b : List Byte) : (offer c i b s).attention = s.attention := by
  unfold offer; split <;> rfl
@[simp] theorem offer_focus (s : State) (c : Chan) (i : Interface) (b : List Byte) : (offer c i b s).focus = s.focus := by
  unfold offer; split <;> rfl
@[simp] theorem offer_pointer (s : State) (c : Chan) (i : Interface) (b : List Byte) : (offer c i b s).pointer = s.pointer := by
  unfold offer; split <;> rfl
@[simp] theorem offer_display (s : State) (c : Chan) (i : Interface) (b : List Byte) : (offer c i b s).display = s.display := by
  unfold offer; split <;> rfl
@[simp] theorem offer_links (s : State) (c : Chan) (i : Interface) (b : List Byte) : (offer c i b s).links = s.links := by
  unfold offer; split <;> rfl
@[simp] theorem offer_player (s : State) (c : Chan) (i : Interface) (b : List Byte) : (offer c i b s).player = s.player := by
  unfold offer; split <;> rfl
@[simp] theorem offer_mgmt (s : State) (c : Chan) (i : Interface) (b : List Byte) : (offer c i b s).mgmt = s.mgmt := by
  unfold offer; split <;> rfl
@[simp] theorem offer_skipped (s : State) (c : Chan) (i : Interface) (b : List Byte) : (offer c i b s).skipped = s.skipped := by
  unfold offer; split <;> rfl
@[simp] theorem offer_store (s : State) (c : Chan) (i : Interface) (b : List Byte) : (offer c i b s).store = s.store := by
  unfold offer; split <;> rfl
@[simp] theorem offer_free (s : State) (c : Chan) (i : Interface) (b : List Byte) : (offer c i b s).free = s.free := by
  unfold offer; split <;> rfl
@[simp] theorem offer_pending (s : State) (c : Chan) (i : Interface) (b : List Byte) : (offer c i b s).pending = s.pending := by
  unfold offer; split <;> rfl

@[simp] theorem sendKeyboard_tables (s : State) (c : Chan) : (sendKeyboard c s).tables = s.tables := by
  simp [sendKeyboard]
@[simp] theorem sendKeyboard_console (s : State) (c : Chan) : (sendKeyboard c s).console = s.console := by
  simp [sendKeyboard]
@[simp] theorem sendKeyboard_router (s : State) (c : Chan) : (sendKeyboard c s).router = s.router := by
  simp [sendKeyboard]
@[simp] theorem sendKeyboard_attention (s : State) (c : Chan) : (sendKeyboard c s).attention = s.attention := by
  simp [sendKeyboard]
@[simp] theorem sendKeyboard_focus (s : State) (c : Chan) : (sendKeyboard c s).focus = s.focus := by
  simp [sendKeyboard]
@[simp] theorem sendKeyboard_pointer (s : State) (c : Chan) : (sendKeyboard c s).pointer = s.pointer := by
  simp [sendKeyboard]
@[simp] theorem sendKeyboard_display (s : State) (c : Chan) : (sendKeyboard c s).display = s.display := by
  simp [sendKeyboard]
@[simp] theorem sendKeyboard_links (s : State) (c : Chan) : (sendKeyboard c s).links = s.links := by
  simp [sendKeyboard]
@[simp] theorem sendKeyboard_player (s : State) (c : Chan) : (sendKeyboard c s).player = s.player := by
  simp [sendKeyboard]
@[simp] theorem sendKeyboard_mgmt (s : State) (c : Chan) : (sendKeyboard c s).mgmt = s.mgmt := by
  simp [sendKeyboard]
@[simp] theorem sendKeyboard_skipped (s : State) (c : Chan) : (sendKeyboard c s).skipped = s.skipped := by
  simp [sendKeyboard]
@[simp] theorem sendKeyboard_store (s : State) (c : Chan) : (sendKeyboard c s).store = s.store := by
  simp [sendKeyboard]
@[simp] theorem sendKeyboard_free (s : State) (c : Chan) : (sendKeyboard c s).free = s.free := by
  simp [sendKeyboard]
@[simp] theorem sendKeyboard_pending (s : State) (c : Chan) : (sendKeyboard c s).pending = s.pending := by
  simp [sendKeyboard]

@[simp] theorem sendButtons_tables (s : State) (c : Chan) : (sendButtons c s).tables = s.tables := by
  simp [sendButtons]
@[simp] theorem sendButtons_console (s : State) (c : Chan) : (sendButtons c s).console = s.console := by
  simp [sendButtons]
@[simp] theorem sendButtons_router (s : State) (c : Chan) : (sendButtons c s).router = s.router := by
  simp [sendButtons]
@[simp] theorem sendButtons_attention (s : State) (c : Chan) : (sendButtons c s).attention = s.attention := by
  simp [sendButtons]
@[simp] theorem sendButtons_focus (s : State) (c : Chan) : (sendButtons c s).focus = s.focus := by
  simp [sendButtons]
@[simp] theorem sendButtons_pointer (s : State) (c : Chan) : (sendButtons c s).pointer = s.pointer := by
  simp [sendButtons]
@[simp] theorem sendButtons_display (s : State) (c : Chan) : (sendButtons c s).display = s.display := by
  simp [sendButtons]
@[simp] theorem sendButtons_links (s : State) (c : Chan) : (sendButtons c s).links = s.links := by
  simp [sendButtons]
@[simp] theorem sendButtons_player (s : State) (c : Chan) : (sendButtons c s).player = s.player := by
  simp [sendButtons]
@[simp] theorem sendButtons_mgmt (s : State) (c : Chan) : (sendButtons c s).mgmt = s.mgmt := by
  simp [sendButtons]
@[simp] theorem sendButtons_skipped (s : State) (c : Chan) : (sendButtons c s).skipped = s.skipped := by
  simp [sendButtons]
@[simp] theorem sendButtons_store (s : State) (c : Chan) : (sendButtons c s).store = s.store := by
  simp [sendButtons]
@[simp] theorem sendButtons_free (s : State) (c : Chan) : (sendButtons c s).free = s.free := by
  simp [sendButtons]
@[simp] theorem sendButtons_pending (s : State) (c : Chan) : (sendButtons c s).pending = s.pending := by
  simp [sendButtons]

@[simp] theorem drivePort_tables (s : State) (p : Port) : (drivePort p s).tables = s.tables := by
  unfold drivePort; split <;> rfl
@[simp] theorem drivePort_console (s : State) (p : Port) : (drivePort p s).console = s.console := by
  unfold drivePort; split <;> rfl
@[simp] theorem drivePort_router (s : State) (p : Port) : (drivePort p s).router = s.router := by
  unfold drivePort; split <;> rfl
@[simp] theorem drivePort_attention (s : State) (p : Port) : (drivePort p s).attention = s.attention := by
  unfold drivePort; split <;> rfl
@[simp] theorem drivePort_focus (s : State) (p : Port) : (drivePort p s).focus = s.focus := by
  unfold drivePort; split <;> rfl
@[simp] theorem drivePort_pointer (s : State) (p : Port) : (drivePort p s).pointer = s.pointer := by
  unfold drivePort; split <;> rfl
@[simp] theorem drivePort_display (s : State) (p : Port) : (drivePort p s).display = s.display := by
  unfold drivePort; split <;> rfl
@[simp] theorem drivePort_links (s : State) (p : Port) : (drivePort p s).links = s.links := by
  unfold drivePort; split <;> rfl
@[simp] theorem drivePort_player (s : State) (p : Port) : (drivePort p s).player = s.player := by
  unfold drivePort; split <;> rfl
@[simp] theorem drivePort_mgmt (s : State) (p : Port) : (drivePort p s).mgmt = s.mgmt := by
  unfold drivePort; split <;> rfl
@[simp] theorem drivePort_skipped (s : State) (p : Port) : (drivePort p s).skipped = s.skipped := by
  unfold drivePort; split <;> rfl
@[simp] theorem drivePort_store (s : State) (p : Port) : (drivePort p s).store = s.store := by
  unfold drivePort; split <;> rfl
@[simp] theorem drivePort_free (s : State) (p : Port) : (drivePort p s).free = s.free := by
  unfold drivePort; split <;> rfl
@[simp] theorem drivePort_pending (s : State) (p : Port) : (drivePort p s).pending = s.pending := by
  unfold drivePort; split <;> rfl

@[simp] theorem driveConsoleLeds_tables (s : State) : (driveConsoleLeds s).tables = s.tables := by
  simp [driveConsoleLeds]
@[simp] theorem driveConsoleLeds_console (s : State) : (driveConsoleLeds s).console = s.console := by
  simp [driveConsoleLeds]
@[simp] theorem driveConsoleLeds_router (s : State) : (driveConsoleLeds s).router = s.router := by
  simp [driveConsoleLeds]
@[simp] theorem driveConsoleLeds_attention (s : State) : (driveConsoleLeds s).attention = s.attention := by
  simp [driveConsoleLeds]
@[simp] theorem driveConsoleLeds_focus (s : State) : (driveConsoleLeds s).focus = s.focus := by
  simp [driveConsoleLeds]
@[simp] theorem driveConsoleLeds_pointer (s : State) : (driveConsoleLeds s).pointer = s.pointer := by
  simp [driveConsoleLeds]
@[simp] theorem driveConsoleLeds_display (s : State) : (driveConsoleLeds s).display = s.display := by
  simp [driveConsoleLeds]
@[simp] theorem driveConsoleLeds_links (s : State) : (driveConsoleLeds s).links = s.links := by
  simp [driveConsoleLeds]
@[simp] theorem driveConsoleLeds_player (s : State) : (driveConsoleLeds s).player = s.player := by
  simp [driveConsoleLeds]
@[simp] theorem driveConsoleLeds_mgmt (s : State) : (driveConsoleLeds s).mgmt = s.mgmt := by
  simp [driveConsoleLeds]
@[simp] theorem driveConsoleLeds_skipped (s : State) : (driveConsoleLeds s).skipped = s.skipped := by
  simp [driveConsoleLeds]
@[simp] theorem driveConsoleLeds_store (s : State) : (driveConsoleLeds s).store = s.store := by
  simp [driveConsoleLeds]
@[simp] theorem driveConsoleLeds_free (s : State) : (driveConsoleLeds s).free = s.free := by
  simp [driveConsoleLeds]
@[simp] theorem driveConsoleLeds_pending (s : State) : (driveConsoleLeds s).pending = s.pending := by
  simp [driveConsoleLeds]

@[simp] theorem sendAlert_tables (s : State) (c : Chan) (e : Event) : (sendAlert c e s).tables = s.tables := by
  simp [sendAlert]
@[simp] theorem sendAlert_console (s : State) (c : Chan) (e : Event) : (sendAlert c e s).console = s.console := by
  simp [sendAlert]
@[simp] theorem sendAlert_router (s : State) (c : Chan) (e : Event) : (sendAlert c e s).router = s.router := by
  simp [sendAlert]
@[simp] theorem sendAlert_attention (s : State) (c : Chan) (e : Event) : (sendAlert c e s).attention = s.attention := by
  simp [sendAlert]
@[simp] theorem sendAlert_focus (s : State) (c : Chan) (e : Event) : (sendAlert c e s).focus = s.focus := by
  simp [sendAlert]
@[simp] theorem sendAlert_pointer (s : State) (c : Chan) (e : Event) : (sendAlert c e s).pointer = s.pointer := by
  simp [sendAlert]
@[simp] theorem sendAlert_display (s : State) (c : Chan) (e : Event) : (sendAlert c e s).display = s.display := by
  simp [sendAlert]
@[simp] theorem sendAlert_links (s : State) (c : Chan) (e : Event) : (sendAlert c e s).links = s.links := by
  simp [sendAlert]
@[simp] theorem sendAlert_player (s : State) (c : Chan) (e : Event) : (sendAlert c e s).player = s.player := by
  simp [sendAlert]
@[simp] theorem sendAlert_skipped (s : State) (c : Chan) (e : Event) : (sendAlert c e s).skipped = s.skipped := by
  simp [sendAlert]
@[simp] theorem sendAlert_store (s : State) (c : Chan) (e : Event) : (sendAlert c e s).store = s.store := by
  simp [sendAlert]
@[simp] theorem sendAlert_free (s : State) (c : Chan) (e : Event) : (sendAlert c e s).free = s.free := by
  simp [sendAlert]
@[simp] theorem sendAlert_pending (s : State) (c : Chan) (e : Event) : (sendAlert c e s).pending = s.pending := by
  simp [sendAlert]

@[simp] theorem latch_tables (s : State) (e : Event) : (latch e s).tables = s.tables := by
  unfold latch; dsimp only; (repeat' split) <;> simp
@[simp] theorem latch_console (s : State) (e : Event) : (latch e s).console = s.console := by
  unfold latch; dsimp only; (repeat' split) <;> simp
@[simp] theorem latch_router (s : State) (e : Event) : (latch e s).router = s.router := by
  unfold latch; dsimp only; (repeat' split) <;> simp
@[simp] theorem latch_attention (s : State) (e : Event) : (latch e s).attention = s.attention := by
  unfold latch; dsimp only; (repeat' split) <;> simp
@[simp] theorem latch_focus (s : State) (e : Event) : (latch e s).focus = s.focus := by
  unfold latch; dsimp only; (repeat' split) <;> simp
@[simp] theorem latch_pointer (s : State) (e : Event) : (latch e s).pointer = s.pointer := by
  unfold latch; dsimp only; (repeat' split) <;> simp
@[simp] theorem latch_display (s : State) (e : Event) : (latch e s).display = s.display := by
  unfold latch; dsimp only; (repeat' split) <;> simp
@[simp] theorem latch_links (s : State) (e : Event) : (latch e s).links = s.links := by
  unfold latch; dsimp only; (repeat' split) <;> simp
@[simp] theorem latch_player (s : State) (e : Event) : (latch e s).player = s.player := by
  unfold latch; dsimp only; (repeat' split) <;> simp
@[simp] theorem latch_skipped (s : State) (e : Event) : (latch e s).skipped = s.skipped := by
  unfold latch; dsimp only; (repeat' split) <;> simp
@[simp] theorem latch_store (s : State) (e : Event) : (latch e s).store = s.store := by
  unfold latch; dsimp only; (repeat' split) <;> simp
@[simp] theorem latch_free (s : State) (e : Event) : (latch e s).free = s.free := by
  unfold latch; dsimp only; (repeat' split) <;> simp
@[simp] theorem latch_pending (s : State) (e : Event) : (latch e s).pending = s.pending := by
  unfold latch; dsimp only; (repeat' split) <;> simp

@[simp] theorem alertWhenActive_tables (s : State) : (alertWhenActive s).tables = s.tables := by
  unfold alertWhenActive; split <;> simp
@[simp] theorem alertWhenActive_console (s : State) : (alertWhenActive s).console = s.console := by
  unfold alertWhenActive; split <;> simp
@[simp] theorem alertWhenActive_router (s : State) : (alertWhenActive s).router = s.router := by
  unfold alertWhenActive; split <;> simp
@[simp] theorem alertWhenActive_attention (s : State) : (alertWhenActive s).attention = s.attention := by
  unfold alertWhenActive; split <;> simp
@[simp] theorem alertWhenActive_focus (s : State) : (alertWhenActive s).focus = s.focus := by
  unfold alertWhenActive; split <;> simp
@[simp] theorem alertWhenActive_pointer (s : State) : (alertWhenActive s).pointer = s.pointer := by
  unfold alertWhenActive; split <;> simp
@[simp] theorem alertWhenActive_display (s : State) : (alertWhenActive s).display = s.display := by
  unfold alertWhenActive; split <;> simp
@[simp] theorem alertWhenActive_links (s : State) : (alertWhenActive s).links = s.links := by
  unfold alertWhenActive; split <;> simp
@[simp] theorem alertWhenActive_player (s : State) : (alertWhenActive s).player = s.player := by
  unfold alertWhenActive; split <;> simp
@[simp] theorem alertWhenActive_skipped (s : State) : (alertWhenActive s).skipped = s.skipped := by
  unfold alertWhenActive; split <;> simp
@[simp] theorem alertWhenActive_store (s : State) : (alertWhenActive s).store = s.store := by
  unfold alertWhenActive; split <;> simp
@[simp] theorem alertWhenActive_free (s : State) : (alertWhenActive s).free = s.free := by
  unfold alertWhenActive; split <;> simp
@[simp] theorem alertWhenActive_pending (s : State) : (alertWhenActive s).pending = s.pending := by
  unfold alertWhenActive; split <;> simp

@[simp] theorem alertOnActive_tables (s : State) (c : Chan) : (alertOnActive c s).tables = s.tables := by
  unfold alertOnActive; split <;> simp
@[simp] theorem alertOnActive_console (s : State) (c : Chan) : (alertOnActive c s).console = s.console := by
  unfold alertOnActive; split <;> simp
@[simp] theorem alertOnActive_router (s : State) (c : Chan) : (alertOnActive c s).router = s.router := by
  unfold alertOnActive; split <;> simp
@[simp] theorem alertOnActive_attention (s : State) (c : Chan) : (alertOnActive c s).attention = s.attention := by
  unfold alertOnActive; split <;> simp
@[simp] theorem alertOnActive_focus (s : State) (c : Chan) : (alertOnActive c s).focus = s.focus := by
  unfold alertOnActive; split <;> simp
@[simp] theorem alertOnActive_pointer (s : State) (c : Chan) : (alertOnActive c s).pointer = s.pointer := by
  unfold alertOnActive; split <;> simp
@[simp] theorem alertOnActive_display (s : State) (c : Chan) : (alertOnActive c s).display = s.display := by
  unfold alertOnActive; split <;> simp
@[simp] theorem alertOnActive_links (s : State) (c : Chan) : (alertOnActive c s).links = s.links := by
  unfold alertOnActive; split <;> simp
@[simp] theorem alertOnActive_player (s : State) (c : Chan) : (alertOnActive c s).player = s.player := by
  unfold alertOnActive; split <;> simp
@[simp] theorem alertOnActive_skipped (s : State) (c : Chan) : (alertOnActive c s).skipped = s.skipped := by
  unfold alertOnActive; split <;> simp
@[simp] theorem alertOnActive_store (s : State) (c : Chan) : (alertOnActive c s).store = s.store := by
  unfold alertOnActive; split <;> simp
@[simp] theorem alertOnActive_free (s : State) (c : Chan) : (alertOnActive c s).free = s.free := by
  unfold alertOnActive; split <;> simp
@[simp] theorem alertOnActive_pending (s : State) (c : Chan) : (alertOnActive c s).pending = s.pending := by
  unfold alertOnActive; split <;> simp

@[simp] theorem latchRefusals_tables (s : State) (g x : Bool) : (latchRefusals g x s).tables = s.tables := by
  unfold latchRefusals; dsimp only; (repeat' split) <;> simp
@[simp] theorem latchRefusals_console (s : State) (g x : Bool) : (latchRefusals g x s).console = s.console := by
  unfold latchRefusals; dsimp only; (repeat' split) <;> simp
@[simp] theorem latchRefusals_router (s : State) (g x : Bool) : (latchRefusals g x s).router = s.router := by
  unfold latchRefusals; dsimp only; (repeat' split) <;> simp
@[simp] theorem latchRefusals_attention (s : State) (g x : Bool) : (latchRefusals g x s).attention = s.attention := by
  unfold latchRefusals; dsimp only; (repeat' split) <;> simp
@[simp] theorem latchRefusals_focus (s : State) (g x : Bool) : (latchRefusals g x s).focus = s.focus := by
  unfold latchRefusals; dsimp only; (repeat' split) <;> simp
@[simp] theorem latchRefusals_pointer (s : State) (g x : Bool) : (latchRefusals g x s).pointer = s.pointer := by
  unfold latchRefusals; dsimp only; (repeat' split) <;> simp
@[simp] theorem latchRefusals_display (s : State) (g x : Bool) : (latchRefusals g x s).display = s.display := by
  unfold latchRefusals; dsimp only; (repeat' split) <;> simp
@[simp] theorem latchRefusals_links (s : State) (g x : Bool) : (latchRefusals g x s).links = s.links := by
  unfold latchRefusals; dsimp only; (repeat' split) <;> simp
@[simp] theorem latchRefusals_player (s : State) (g x : Bool) : (latchRefusals g x s).player = s.player := by
  unfold latchRefusals; dsimp only; (repeat' split) <;> simp
@[simp] theorem latchRefusals_skipped (s : State) (g x : Bool) : (latchRefusals g x s).skipped = s.skipped := by
  unfold latchRefusals; dsimp only; (repeat' split) <;> simp
@[simp] theorem latchRefusals_store (s : State) (g x : Bool) : (latchRefusals g x s).store = s.store := by
  unfold latchRefusals; dsimp only; (repeat' split) <;> simp
@[simp] theorem latchRefusals_free (s : State) (g x : Bool) : (latchRefusals g x s).free = s.free := by
  unfold latchRefusals; dsimp only; (repeat' split) <;> simp
@[simp] theorem latchRefusals_pending (s : State) (g x : Bool) : (latchRefusals g x s).pending = s.pending := by
  unfold latchRefusals; dsimp only; (repeat' split) <;> simp

@[simp] theorem pressCode_tables (s : State) (c : Chan) (k : Code) : (pressCode c k s).tables = s.tables := by
  unfold pressCode; dsimp only; split <;> simp
@[simp] theorem pressCode_console (s : State) (c : Chan) (k : Code) : (pressCode c k s).console = s.console := by
  unfold pressCode; dsimp only; split <;> simp
@[simp] theorem pressCode_attention (s : State) (c : Chan) (k : Code) : (pressCode c k s).attention = s.attention := by
  unfold pressCode; dsimp only; split <;> simp
@[simp] theorem pressCode_focus (s : State) (c : Chan) (k : Code) : (pressCode c k s).focus = s.focus := by
  unfold pressCode; dsimp only; split <;> simp
@[simp] theorem pressCode_pointer (s : State) (c : Chan) (k : Code) : (pressCode c k s).pointer = s.pointer := by
  unfold pressCode; dsimp only; split <;> simp
@[simp] theorem pressCode_display (s : State) (c : Chan) (k : Code) : (pressCode c k s).display = s.display := by
  unfold pressCode; dsimp only; split <;> simp
@[simp] theorem pressCode_links (s : State) (c : Chan) (k : Code) : (pressCode c k s).links = s.links := by
  unfold pressCode; dsimp only; split <;> simp
@[simp] theorem pressCode_player (s : State) (c : Chan) (k : Code) : (pressCode c k s).player = s.player := by
  unfold pressCode; dsimp only; split <;> simp
@[simp] theorem pressCode_mgmt (s : State) (c : Chan) (k : Code) : (pressCode c k s).mgmt = s.mgmt := by
  unfold pressCode; dsimp only; split <;> simp
@[simp] theorem pressCode_skipped (s : State) (c : Chan) (k : Code) : (pressCode c k s).skipped = s.skipped := by
  unfold pressCode; dsimp only; split <;> simp
@[simp] theorem pressCode_store (s : State) (c : Chan) (k : Code) : (pressCode c k s).store = s.store := by
  unfold pressCode; dsimp only; split <;> simp
@[simp] theorem pressCode_free (s : State) (c : Chan) (k : Code) : (pressCode c k s).free = s.free := by
  unfold pressCode; dsimp only; split <;> simp
@[simp] theorem pressCode_pending (s : State) (c : Chan) (k : Code) : (pressCode c k s).pending = s.pending := by
  unfold pressCode; dsimp only; split <;> simp

@[simp] theorem lowerCode_tables (s : State) (c : Chan) (k : Code) : (lowerCode c k s).tables = s.tables := by
  simp [lowerCode]
@[simp] theorem lowerCode_console (s : State) (c : Chan) (k : Code) : (lowerCode c k s).console = s.console := by
  simp [lowerCode]
@[simp] theorem lowerCode_attention (s : State) (c : Chan) (k : Code) : (lowerCode c k s).attention = s.attention := by
  simp [lowerCode]
@[simp] theorem lowerCode_focus (s : State) (c : Chan) (k : Code) : (lowerCode c k s).focus = s.focus := by
  simp [lowerCode]
@[simp] theorem lowerCode_pointer (s : State) (c : Chan) (k : Code) : (lowerCode c k s).pointer = s.pointer := by
  simp [lowerCode]
@[simp] theorem lowerCode_display (s : State) (c : Chan) (k : Code) : (lowerCode c k s).display = s.display := by
  simp [lowerCode]
@[simp] theorem lowerCode_links (s : State) (c : Chan) (k : Code) : (lowerCode c k s).links = s.links := by
  simp [lowerCode]
@[simp] theorem lowerCode_player (s : State) (c : Chan) (k : Code) : (lowerCode c k s).player = s.player := by
  simp [lowerCode]
@[simp] theorem lowerCode_mgmt (s : State) (c : Chan) (k : Code) : (lowerCode c k s).mgmt = s.mgmt := by
  simp [lowerCode]
@[simp] theorem lowerCode_skipped (s : State) (c : Chan) (k : Code) : (lowerCode c k s).skipped = s.skipped := by
  simp [lowerCode]
@[simp] theorem lowerCode_store (s : State) (c : Chan) (k : Code) : (lowerCode c k s).store = s.store := by
  simp [lowerCode]
@[simp] theorem lowerCode_free (s : State) (c : Chan) (k : Code) : (lowerCode c k s).free = s.free := by
  simp [lowerCode]
@[simp] theorem lowerCode_pending (s : State) (c : Chan) (k : Code) : (lowerCode c k s).pending = s.pending := by
  simp [lowerCode]

@[simp] theorem releaseCode_tables (s : State) (c : Chan) (k : Code) : (releaseCode c k s).tables = s.tables := by
  unfold releaseCode; split <;> simp
@[simp] theorem releaseCode_console (s : State) (c : Chan) (k : Code) : (releaseCode c k s).console = s.console := by
  unfold releaseCode; split <;> simp
@[simp] theorem releaseCode_attention (s : State) (c : Chan) (k : Code) : (releaseCode c k s).attention = s.attention := by
  unfold releaseCode; split <;> simp
@[simp] theorem releaseCode_focus (s : State) (c : Chan) (k : Code) : (releaseCode c k s).focus = s.focus := by
  unfold releaseCode; split <;> simp
@[simp] theorem releaseCode_pointer (s : State) (c : Chan) (k : Code) : (releaseCode c k s).pointer = s.pointer := by
  unfold releaseCode; split <;> simp
@[simp] theorem releaseCode_display (s : State) (c : Chan) (k : Code) : (releaseCode c k s).display = s.display := by
  unfold releaseCode; split <;> simp
@[simp] theorem releaseCode_links (s : State) (c : Chan) (k : Code) : (releaseCode c k s).links = s.links := by
  unfold releaseCode; split <;> simp
@[simp] theorem releaseCode_player (s : State) (c : Chan) (k : Code) : (releaseCode c k s).player = s.player := by
  unfold releaseCode; split <;> simp
@[simp] theorem releaseCode_mgmt (s : State) (c : Chan) (k : Code) : (releaseCode c k s).mgmt = s.mgmt := by
  unfold releaseCode; split <;> simp
@[simp] theorem releaseCode_skipped (s : State) (c : Chan) (k : Code) : (releaseCode c k s).skipped = s.skipped := by
  unfold releaseCode; split <;> simp
@[simp] theorem releaseCode_store (s : State) (c : Chan) (k : Code) : (releaseCode c k s).store = s.store := by
  unfold releaseCode; split <;> simp
@[simp] theorem releaseCode_free (s : State) (c : Chan) (k : Code) : (releaseCode c k s).free = s.free := by
  unfold releaseCode; split <;> simp
@[simp] theorem releaseCode_pending (s : State) (c : Chan) (k : Code) : (releaseCode c k s).pending = s.pending := by
  unfold releaseCode; split <;> simp

@[simp] theorem signalWake_tables (s : State) (c : Chan) (n : Nat) : (signalWake c n s).tables = s.tables := by
  simp [signalWake]
@[simp] theorem signalWake_console (s : State) (c : Chan) (n : Nat) : (signalWake c n s).console = s.console := by
  simp [signalWake]
@[simp] theorem signalWake_router (s : State) (c : Chan) (n : Nat) : (signalWake c n s).router = s.router := by
  simp [signalWake]
@[simp] theorem signalWake_attention (s : State) (c : Chan) (n : Nat) : (signalWake c n s).attention = s.attention := by
  simp [signalWake]
@[simp] theorem signalWake_focus (s : State) (c : Chan) (n : Nat) : (signalWake c n s).focus = s.focus := by
  simp [signalWake]
@[simp] theorem signalWake_pointer (s : State) (c : Chan) (n : Nat) : (signalWake c n s).pointer = s.pointer := by
  simp [signalWake]
@[simp] theorem signalWake_display (s : State) (c : Chan) (n : Nat) : (signalWake c n s).display = s.display := by
  simp [signalWake]
@[simp] theorem signalWake_player (s : State) (c : Chan) (n : Nat) : (signalWake c n s).player = s.player := by
  simp [signalWake]
@[simp] theorem signalWake_mgmt (s : State) (c : Chan) (n : Nat) : (signalWake c n s).mgmt = s.mgmt := by
  simp [signalWake]
@[simp] theorem signalWake_skipped (s : State) (c : Chan) (n : Nat) : (signalWake c n s).skipped = s.skipped := by
  simp [signalWake]
@[simp] theorem signalWake_store (s : State) (c : Chan) (n : Nat) : (signalWake c n s).store = s.store := by
  simp [signalWake]
@[simp] theorem signalWake_free (s : State) (c : Chan) (n : Nat) : (signalWake c n s).free = s.free := by
  simp [signalWake]
@[simp] theorem signalWake_pending (s : State) (c : Chan) (n : Nat) : (signalWake c n s).pending = s.pending := by
  simp [signalWake]

@[simp] theorem wakeRequest_tables (s : State) (c : Chan) : (wakeRequest c s).2.tables = s.tables := by
  unfold wakeRequest; (repeat' split) <;> simp
@[simp] theorem wakeRequest_console (s : State) (c : Chan) : (wakeRequest c s).2.console = s.console := by
  unfold wakeRequest; (repeat' split) <;> simp
@[simp] theorem wakeRequest_router (s : State) (c : Chan) : (wakeRequest c s).2.router = s.router := by
  unfold wakeRequest; (repeat' split) <;> simp
@[simp] theorem wakeRequest_attention (s : State) (c : Chan) : (wakeRequest c s).2.attention = s.attention := by
  unfold wakeRequest; (repeat' split) <;> simp
@[simp] theorem wakeRequest_focus (s : State) (c : Chan) : (wakeRequest c s).2.focus = s.focus := by
  unfold wakeRequest; (repeat' split) <;> simp
@[simp] theorem wakeRequest_pointer (s : State) (c : Chan) : (wakeRequest c s).2.pointer = s.pointer := by
  unfold wakeRequest; (repeat' split) <;> simp
@[simp] theorem wakeRequest_display (s : State) (c : Chan) : (wakeRequest c s).2.display = s.display := by
  unfold wakeRequest; (repeat' split) <;> simp
@[simp] theorem wakeRequest_player (s : State) (c : Chan) : (wakeRequest c s).2.player = s.player := by
  unfold wakeRequest; (repeat' split) <;> simp
@[simp] theorem wakeRequest_skipped (s : State) (c : Chan) : (wakeRequest c s).2.skipped = s.skipped := by
  unfold wakeRequest; (repeat' split) <;> simp
@[simp] theorem wakeRequest_store (s : State) (c : Chan) : (wakeRequest c s).2.store = s.store := by
  unfold wakeRequest; (repeat' split) <;> simp
@[simp] theorem wakeRequest_free (s : State) (c : Chan) : (wakeRequest c s).2.free = s.free := by
  unfold wakeRequest; (repeat' split) <;> simp
@[simp] theorem wakeRequest_pending (s : State) (c : Chan) : (wakeRequest c s).2.pending = s.pending := by
  unfold wakeRequest; (repeat' split) <;> simp

@[simp] theorem placeDown_tables (s : State) (c : Chan) (i : HoldItem) : (placeDown c i s).2.tables = s.tables := by
  unfold placeDown; dsimp only; split <;> simp
@[simp] theorem placeDown_console (s : State) (c : Chan) (i : HoldItem) : (placeDown c i s).2.console = s.console := by
  unfold placeDown; dsimp only; split <;> simp
@[simp] theorem placeDown_router (s : State) (c : Chan) (i : HoldItem) : (placeDown c i s).2.router = s.router := by
  unfold placeDown; dsimp only; split <;> simp
@[simp] theorem placeDown_attention (s : State) (c : Chan) (i : HoldItem) : (placeDown c i s).2.attention = s.attention := by
  unfold placeDown; dsimp only; split <;> simp
@[simp] theorem placeDown_focus (s : State) (c : Chan) (i : HoldItem) : (placeDown c i s).2.focus = s.focus := by
  unfold placeDown; dsimp only; split <;> simp
@[simp] theorem placeDown_pointer (s : State) (c : Chan) (i : HoldItem) : (placeDown c i s).2.pointer = s.pointer := by
  unfold placeDown; dsimp only; split <;> simp
@[simp] theorem placeDown_display (s : State) (c : Chan) (i : HoldItem) : (placeDown c i s).2.display = s.display := by
  unfold placeDown; dsimp only; split <;> simp
@[simp] theorem placeDown_player (s : State) (c : Chan) (i : HoldItem) : (placeDown c i s).2.player = s.player := by
  unfold placeDown; dsimp only; split <;> simp
@[simp] theorem placeDown_skipped (s : State) (c : Chan) (i : HoldItem) : (placeDown c i s).2.skipped = s.skipped := by
  unfold placeDown; dsimp only; split <;> simp
@[simp] theorem placeDown_store (s : State) (c : Chan) (i : HoldItem) : (placeDown c i s).2.store = s.store := by
  unfold placeDown; dsimp only; split <;> simp
@[simp] theorem placeDown_free (s : State) (c : Chan) (i : HoldItem) : (placeDown c i s).2.free = s.free := by
  unfold placeDown; dsimp only; split <;> simp
@[simp] theorem placeDown_pending (s : State) (c : Chan) (i : HoldItem) : (placeDown c i s).2.pending = s.pending := by
  unfold placeDown; dsimp only; split <;> simp

@[simp] theorem placeRelease_tables (s : State) (c : Chan) (i : HoldItem) : (placeRelease c i s).tables = s.tables := by
  simp [placeRelease]
@[simp] theorem placeRelease_console (s : State) (c : Chan) (i : HoldItem) : (placeRelease c i s).console = s.console := by
  simp [placeRelease]
@[simp] theorem placeRelease_router (s : State) (c : Chan) (i : HoldItem) : (placeRelease c i s).router = s.router := by
  simp [placeRelease]
@[simp] theorem placeRelease_attention (s : State) (c : Chan) (i : HoldItem) : (placeRelease c i s).attention = s.attention := by
  simp [placeRelease]
@[simp] theorem placeRelease_focus (s : State) (c : Chan) (i : HoldItem) : (placeRelease c i s).focus = s.focus := by
  simp [placeRelease]
@[simp] theorem placeRelease_pointer (s : State) (c : Chan) (i : HoldItem) : (placeRelease c i s).pointer = s.pointer := by
  simp [placeRelease]
@[simp] theorem placeRelease_display (s : State) (c : Chan) (i : HoldItem) : (placeRelease c i s).display = s.display := by
  simp [placeRelease]
@[simp] theorem placeRelease_player (s : State) (c : Chan) (i : HoldItem) : (placeRelease c i s).player = s.player := by
  simp [placeRelease]
@[simp] theorem placeRelease_mgmt (s : State) (c : Chan) (i : HoldItem) : (placeRelease c i s).mgmt = s.mgmt := by
  simp [placeRelease]
@[simp] theorem placeRelease_skipped (s : State) (c : Chan) (i : HoldItem) : (placeRelease c i s).skipped = s.skipped := by
  simp [placeRelease]
@[simp] theorem placeRelease_store (s : State) (c : Chan) (i : HoldItem) : (placeRelease c i s).store = s.store := by
  simp [placeRelease]
@[simp] theorem placeRelease_free (s : State) (c : Chan) (i : HoldItem) : (placeRelease c i s).free = s.free := by
  simp [placeRelease]
@[simp] theorem placeRelease_pending (s : State) (c : Chan) (i : HoldItem) : (placeRelease c i s).pending = s.pending := by
  simp [placeRelease]

@[simp] theorem placeSettled_tables (s : State) (c : Chan) (i : HoldItem) : (placeSettled c i s).tables = s.tables := by
  unfold placeSettled; dsimp only; split <;> simp
@[simp] theorem placeSettled_console (s : State) (c : Chan) (i : HoldItem) : (placeSettled c i s).console = s.console := by
  unfold placeSettled; dsimp only; split <;> simp
@[simp] theorem placeSettled_router (s : State) (c : Chan) (i : HoldItem) : (placeSettled c i s).router = s.router := by
  unfold placeSettled; dsimp only; split <;> simp
@[simp] theorem placeSettled_attention (s : State) (c : Chan) (i : HoldItem) : (placeSettled c i s).attention = s.attention := by
  unfold placeSettled; dsimp only; split <;> simp
@[simp] theorem placeSettled_focus (s : State) (c : Chan) (i : HoldItem) : (placeSettled c i s).focus = s.focus := by
  unfold placeSettled; dsimp only; split <;> simp
@[simp] theorem placeSettled_pointer (s : State) (c : Chan) (i : HoldItem) : (placeSettled c i s).pointer = s.pointer := by
  unfold placeSettled; dsimp only; split <;> simp
@[simp] theorem placeSettled_display (s : State) (c : Chan) (i : HoldItem) : (placeSettled c i s).display = s.display := by
  unfold placeSettled; dsimp only; split <;> simp
@[simp] theorem placeSettled_player (s : State) (c : Chan) (i : HoldItem) : (placeSettled c i s).player = s.player := by
  unfold placeSettled; dsimp only; split <;> simp
@[simp] theorem placeSettled_mgmt (s : State) (c : Chan) (i : HoldItem) : (placeSettled c i s).mgmt = s.mgmt := by
  unfold placeSettled; dsimp only; split <;> simp
@[simp] theorem placeSettled_skipped (s : State) (c : Chan) (i : HoldItem) : (placeSettled c i s).skipped = s.skipped := by
  unfold placeSettled; dsimp only; split <;> simp
@[simp] theorem placeSettled_store (s : State) (c : Chan) (i : HoldItem) : (placeSettled c i s).store = s.store := by
  unfold placeSettled; dsimp only; split <;> simp
@[simp] theorem placeSettled_free (s : State) (c : Chan) (i : HoldItem) : (placeSettled c i s).free = s.free := by
  unfold placeSettled; dsimp only; split <;> simp
@[simp] theorem placeSettled_pending (s : State) (c : Chan) (i : HoldItem) : (placeSettled c i s).pending = s.pending := by
  unfold placeSettled; dsimp only; split <;> simp

@[simp] theorem queueDown_tables (s : State) (c : Chan) (i : HoldItem) : (queueDown c i s).2.tables = s.tables := by
  simp [queueDown]
@[simp] theorem queueDown_console (s : State) (c : Chan) (i : HoldItem) : (queueDown c i s).2.console = s.console := by
  simp [queueDown]
@[simp] theorem queueDown_router (s : State) (c : Chan) (i : HoldItem) : (queueDown c i s).2.router = s.router := by
  simp [queueDown]
@[simp] theorem queueDown_attention (s : State) (c : Chan) (i : HoldItem) : (queueDown c i s).2.attention = s.attention := by
  simp [queueDown]
@[simp] theorem queueDown_focus (s : State) (c : Chan) (i : HoldItem) : (queueDown c i s).2.focus = s.focus := by
  simp [queueDown]
@[simp] theorem queueDown_pointer (s : State) (c : Chan) (i : HoldItem) : (queueDown c i s).2.pointer = s.pointer := by
  simp [queueDown]
@[simp] theorem queueDown_display (s : State) (c : Chan) (i : HoldItem) : (queueDown c i s).2.display = s.display := by
  simp [queueDown]
@[simp] theorem queueDown_player (s : State) (c : Chan) (i : HoldItem) : (queueDown c i s).2.player = s.player := by
  simp [queueDown]
@[simp] theorem queueDown_skipped (s : State) (c : Chan) (i : HoldItem) : (queueDown c i s).2.skipped = s.skipped := by
  simp [queueDown]
@[simp] theorem queueDown_store (s : State) (c : Chan) (i : HoldItem) : (queueDown c i s).2.store = s.store := by
  simp [queueDown]
@[simp] theorem queueDown_free (s : State) (c : Chan) (i : HoldItem) : (queueDown c i s).2.free = s.free := by
  simp [queueDown]
@[simp] theorem queueDown_pending (s : State) (c : Chan) (i : HoldItem) : (queueDown c i s).2.pending = s.pending := by
  simp [queueDown]

@[simp] theorem offerDown_tables (s : State) (c : Chan) (i : HoldItem) : (offerDown c i s).2.tables = s.tables := by
  unfold offerDown; (repeat' split) <;> simp
@[simp] theorem offerDown_console (s : State) (c : Chan) (i : HoldItem) : (offerDown c i s).2.console = s.console := by
  unfold offerDown; (repeat' split) <;> simp
@[simp] theorem offerDown_router (s : State) (c : Chan) (i : HoldItem) : (offerDown c i s).2.router = s.router := by
  unfold offerDown; (repeat' split) <;> simp
@[simp] theorem offerDown_attention (s : State) (c : Chan) (i : HoldItem) : (offerDown c i s).2.attention = s.attention := by
  unfold offerDown; (repeat' split) <;> simp
@[simp] theorem offerDown_focus (s : State) (c : Chan) (i : HoldItem) : (offerDown c i s).2.focus = s.focus := by
  unfold offerDown; (repeat' split) <;> simp
@[simp] theorem offerDown_pointer (s : State) (c : Chan) (i : HoldItem) : (offerDown c i s).2.pointer = s.pointer := by
  unfold offerDown; (repeat' split) <;> simp
@[simp] theorem offerDown_display (s : State) (c : Chan) (i : HoldItem) : (offerDown c i s).2.display = s.display := by
  unfold offerDown; (repeat' split) <;> simp
@[simp] theorem offerDown_player (s : State) (c : Chan) (i : HoldItem) : (offerDown c i s).2.player = s.player := by
  unfold offerDown; (repeat' split) <;> simp
@[simp] theorem offerDown_skipped (s : State) (c : Chan) (i : HoldItem) : (offerDown c i s).2.skipped = s.skipped := by
  unfold offerDown; (repeat' split) <;> simp
@[simp] theorem offerDown_store (s : State) (c : Chan) (i : HoldItem) : (offerDown c i s).2.store = s.store := by
  unfold offerDown; (repeat' split) <;> simp
@[simp] theorem offerDown_free (s : State) (c : Chan) (i : HoldItem) : (offerDown c i s).2.free = s.free := by
  unfold offerDown; (repeat' split) <;> simp
@[simp] theorem offerDown_pending (s : State) (c : Chan) (i : HoldItem) : (offerDown c i s).2.pending = s.pending := by
  unfold offerDown; (repeat' split) <;> simp

@[simp] theorem settleKey_tables (s : State) (c : Chan) (p : Port) (k t : Code) : (settleKey c p k t s).tables = s.tables := by
  simp [settleKey]
@[simp] theorem settleKey_console (s : State) (c : Chan) (p : Port) (k t : Code) : (settleKey c p k t s).console = s.console := by
  simp [settleKey]
@[simp] theorem settleKey_attention (s : State) (c : Chan) (p : Port) (k t : Code) : (settleKey c p k t s).attention = s.attention := by
  simp [settleKey]
@[simp] theorem settleKey_focus (s : State) (c : Chan) (p : Port) (k t : Code) : (settleKey c p k t s).focus = s.focus := by
  simp [settleKey]
@[simp] theorem settleKey_pointer (s : State) (c : Chan) (p : Port) (k t : Code) : (settleKey c p k t s).pointer = s.pointer := by
  simp [settleKey]
@[simp] theorem settleKey_display (s : State) (c : Chan) (p : Port) (k t : Code) : (settleKey c p k t s).display = s.display := by
  simp [settleKey]
@[simp] theorem settleKey_player (s : State) (c : Chan) (p : Port) (k t : Code) : (settleKey c p k t s).player = s.player := by
  simp [settleKey]
@[simp] theorem settleKey_mgmt (s : State) (c : Chan) (p : Port) (k t : Code) : (settleKey c p k t s).mgmt = s.mgmt := by
  simp [settleKey]
@[simp] theorem settleKey_skipped (s : State) (c : Chan) (p : Port) (k t : Code) : (settleKey c p k t s).skipped = s.skipped := by
  simp [settleKey]
@[simp] theorem settleKey_store (s : State) (c : Chan) (p : Port) (k t : Code) : (settleKey c p k t s).store = s.store := by
  simp [settleKey]
@[simp] theorem settleKey_free (s : State) (c : Chan) (p : Port) (k t : Code) : (settleKey c p k t s).free = s.free := by
  simp [settleKey]
@[simp] theorem settleKey_pending (s : State) (c : Chan) (p : Port) (k t : Code) : (settleKey c p k t s).pending = s.pending := by
  simp [settleKey]

@[simp] theorem removeContribution_tables (s : State) (c : Chan) (p : Port) (k t : Code) : (removeContribution c p k t s).tables = s.tables := by
  unfold removeContribution; split <;> simp
@[simp] theorem removeContribution_console (s : State) (c : Chan) (p : Port) (k t : Code) : (removeContribution c p k t s).console = s.console := by
  unfold removeContribution; split <;> simp
@[simp] theorem removeContribution_attention (s : State) (c : Chan) (p : Port) (k t : Code) : (removeContribution c p k t s).attention = s.attention := by
  unfold removeContribution; split <;> simp
@[simp] theorem removeContribution_focus (s : State) (c : Chan) (p : Port) (k t : Code) : (removeContribution c p k t s).focus = s.focus := by
  unfold removeContribution; split <;> simp
@[simp] theorem removeContribution_pointer (s : State) (c : Chan) (p : Port) (k t : Code) : (removeContribution c p k t s).pointer = s.pointer := by
  unfold removeContribution; split <;> simp
@[simp] theorem removeContribution_display (s : State) (c : Chan) (p : Port) (k t : Code) : (removeContribution c p k t s).display = s.display := by
  unfold removeContribution; split <;> simp
@[simp] theorem removeContribution_player (s : State) (c : Chan) (p : Port) (k t : Code) : (removeContribution c p k t s).player = s.player := by
  unfold removeContribution; split <;> simp
@[simp] theorem removeContribution_mgmt (s : State) (c : Chan) (p : Port) (k t : Code) : (removeContribution c p k t s).mgmt = s.mgmt := by
  unfold removeContribution; split <;> simp
@[simp] theorem removeContribution_skipped (s : State) (c : Chan) (p : Port) (k t : Code) : (removeContribution c p k t s).skipped = s.skipped := by
  unfold removeContribution; split <;> simp
@[simp] theorem removeContribution_store (s : State) (c : Chan) (p : Port) (k t : Code) : (removeContribution c p k t s).store = s.store := by
  unfold removeContribution; split <;> simp
@[simp] theorem removeContribution_free (s : State) (c : Chan) (p : Port) (k t : Code) : (removeContribution c p k t s).free = s.free := by
  unfold removeContribution; split <;> simp
@[simp] theorem removeContribution_pending (s : State) (c : Chan) (p : Port) (k t : Code) : (removeContribution c p k t s).pending = s.pending := by
  unfold removeContribution; split <;> simp

@[simp] theorem markKey_tables (s : State) (c : Chan) (p : Port) (k : Code) : (markKey c p k s).tables = s.tables := by
  unfold markKey; (repeat' split) <;> simp
@[simp] theorem markKey_console (s : State) (c : Chan) (p : Port) (k : Code) : (markKey c p k s).console = s.console := by
  unfold markKey; (repeat' split) <;> simp
@[simp] theorem markKey_attention (s : State) (c : Chan) (p : Port) (k : Code) : (markKey c p k s).attention = s.attention := by
  unfold markKey; (repeat' split) <;> simp
@[simp] theorem markKey_focus (s : State) (c : Chan) (p : Port) (k : Code) : (markKey c p k s).focus = s.focus := by
  unfold markKey; (repeat' split) <;> simp
@[simp] theorem markKey_pointer (s : State) (c : Chan) (p : Port) (k : Code) : (markKey c p k s).pointer = s.pointer := by
  unfold markKey; (repeat' split) <;> simp
@[simp] theorem markKey_display (s : State) (c : Chan) (p : Port) (k : Code) : (markKey c p k s).display = s.display := by
  unfold markKey; (repeat' split) <;> simp
@[simp] theorem markKey_links (s : State) (c : Chan) (p : Port) (k : Code) : (markKey c p k s).links = s.links := by
  unfold markKey; (repeat' split) <;> simp
@[simp] theorem markKey_player (s : State) (c : Chan) (p : Port) (k : Code) : (markKey c p k s).player = s.player := by
  unfold markKey; (repeat' split) <;> simp
@[simp] theorem markKey_mgmt (s : State) (c : Chan) (p : Port) (k : Code) : (markKey c p k s).mgmt = s.mgmt := by
  unfold markKey; (repeat' split) <;> simp
@[simp] theorem markKey_skipped (s : State) (c : Chan) (p : Port) (k : Code) : (markKey c p k s).skipped = s.skipped := by
  unfold markKey; (repeat' split) <;> simp
@[simp] theorem markKey_store (s : State) (c : Chan) (p : Port) (k : Code) : (markKey c p k s).store = s.store := by
  unfold markKey; (repeat' split) <;> simp
@[simp] theorem markKey_free (s : State) (c : Chan) (p : Port) (k : Code) : (markKey c p k s).free = s.free := by
  unfold markKey; (repeat' split) <;> simp
@[simp] theorem markKey_pending (s : State) (c : Chan) (p : Port) (k : Code) : (markKey c p k s).pending = s.pending := by
  unfold markKey; (repeat' split) <;> simp

@[simp] theorem markButton_tables (s : State) (c : Chan) (b : Button) : (markButton c b s).tables = s.tables := by
  unfold markButton; (repeat' split) <;> simp
@[simp] theorem markButton_console (s : State) (c : Chan) (b : Button) : (markButton c b s).console = s.console := by
  unfold markButton; (repeat' split) <;> simp
@[simp] theorem markButton_router (s : State) (c : Chan) (b : Button) : (markButton c b s).router = s.router := by
  unfold markButton; (repeat' split) <;> simp
@[simp] theorem markButton_attention (s : State) (c : Chan) (b : Button) : (markButton c b s).attention = s.attention := by
  unfold markButton; (repeat' split) <;> simp
@[simp] theorem markButton_focus (s : State) (c : Chan) (b : Button) : (markButton c b s).focus = s.focus := by
  unfold markButton; (repeat' split) <;> simp
@[simp] theorem markButton_display (s : State) (c : Chan) (b : Button) : (markButton c b s).display = s.display := by
  unfold markButton; (repeat' split) <;> simp
@[simp] theorem markButton_links (s : State) (c : Chan) (b : Button) : (markButton c b s).links = s.links := by
  unfold markButton; (repeat' split) <;> simp
@[simp] theorem markButton_player (s : State) (c : Chan) (b : Button) : (markButton c b s).player = s.player := by
  unfold markButton; (repeat' split) <;> simp
@[simp] theorem markButton_mgmt (s : State) (c : Chan) (b : Button) : (markButton c b s).mgmt = s.mgmt := by
  unfold markButton; (repeat' split) <;> simp
@[simp] theorem markButton_skipped (s : State) (c : Chan) (b : Button) : (markButton c b s).skipped = s.skipped := by
  unfold markButton; (repeat' split) <;> simp
@[simp] theorem markButton_store (s : State) (c : Chan) (b : Button) : (markButton c b s).store = s.store := by
  unfold markButton; (repeat' split) <;> simp
@[simp] theorem markButton_free (s : State) (c : Chan) (b : Button) : (markButton c b s).free = s.free := by
  unfold markButton; (repeat' split) <;> simp
@[simp] theorem markButton_pending (s : State) (c : Chan) (b : Button) : (markButton c b s).pending = s.pending := by
  unfold markButton; (repeat' split) <;> simp

@[simp] theorem drainItem_tables (s : State) (c : Chan) (i : HoldItem) : (drainItem c s i).tables = s.tables := by
  unfold drainItem; (repeat' split) <;> simp
@[simp] theorem drainItem_console (s : State) (c : Chan) (i : HoldItem) : (drainItem c s i).console = s.console := by
  unfold drainItem; (repeat' split) <;> simp
@[simp] theorem drainItem_attention (s : State) (c : Chan) (i : HoldItem) : (drainItem c s i).attention = s.attention := by
  unfold drainItem; (repeat' split) <;> simp
@[simp] theorem drainItem_focus (s : State) (c : Chan) (i : HoldItem) : (drainItem c s i).focus = s.focus := by
  unfold drainItem; (repeat' split) <;> simp
@[simp] theorem drainItem_display (s : State) (c : Chan) (i : HoldItem) : (drainItem c s i).display = s.display := by
  unfold drainItem; (repeat' split) <;> simp
@[simp] theorem drainItem_links (s : State) (c : Chan) (i : HoldItem) : (drainItem c s i).links = s.links := by
  unfold drainItem; (repeat' split) <;> simp
@[simp] theorem drainItem_player (s : State) (c : Chan) (i : HoldItem) : (drainItem c s i).player = s.player := by
  unfold drainItem; (repeat' split) <;> simp
@[simp] theorem drainItem_mgmt (s : State) (c : Chan) (i : HoldItem) : (drainItem c s i).mgmt = s.mgmt := by
  unfold drainItem; (repeat' split) <;> simp
@[simp] theorem drainItem_skipped (s : State) (c : Chan) (i : HoldItem) : (drainItem c s i).skipped = s.skipped := by
  unfold drainItem; (repeat' split) <;> simp
@[simp] theorem drainItem_store (s : State) (c : Chan) (i : HoldItem) : (drainItem c s i).store = s.store := by
  unfold drainItem; (repeat' split) <;> simp
@[simp] theorem drainItem_free (s : State) (c : Chan) (i : HoldItem) : (drainItem c s i).free = s.free := by
  unfold drainItem; (repeat' split) <;> simp
@[simp] theorem drainItem_pending (s : State) (c : Chan) (i : HoldItem) : (drainItem c s i).pending = s.pending := by
  unfold drainItem; (repeat' split) <;> simp

@[simp] theorem respond_tables (s : State) (c : Chan) (tag : Byte) (a : Bool) (r : Reply) : (respond c tag a r s).tables = s.tables := by
  simp [respond]
@[simp] theorem respond_console (s : State) (c : Chan) (tag : Byte) (a : Bool) (r : Reply) : (respond c tag a r s).console = s.console := by
  simp [respond]
@[simp] theorem respond_router (s : State) (c : Chan) (tag : Byte) (a : Bool) (r : Reply) : (respond c tag a r s).router = s.router := by
  simp [respond]
@[simp] theorem respond_attention (s : State) (c : Chan) (tag : Byte) (a : Bool) (r : Reply) : (respond c tag a r s).attention = s.attention := by
  simp [respond]
@[simp] theorem respond_focus (s : State) (c : Chan) (tag : Byte) (a : Bool) (r : Reply) : (respond c tag a r s).focus = s.focus := by
  simp [respond]
@[simp] theorem respond_pointer (s : State) (c : Chan) (tag : Byte) (a : Bool) (r : Reply) : (respond c tag a r s).pointer = s.pointer := by
  simp [respond]
@[simp] theorem respond_display (s : State) (c : Chan) (tag : Byte) (a : Bool) (r : Reply) : (respond c tag a r s).display = s.display := by
  simp [respond]
@[simp] theorem respond_links (s : State) (c : Chan) (tag : Byte) (a : Bool) (r : Reply) : (respond c tag a r s).links = s.links := by
  simp [respond]
@[simp] theorem respond_player (s : State) (c : Chan) (tag : Byte) (a : Bool) (r : Reply) : (respond c tag a r s).player = s.player := by
  simp [respond]
@[simp] theorem respond_skipped (s : State) (c : Chan) (tag : Byte) (a : Bool) (r : Reply) : (respond c tag a r s).skipped = s.skipped := by
  simp [respond]
@[simp] theorem respond_store (s : State) (c : Chan) (tag : Byte) (a : Bool) (r : Reply) : (respond c tag a r s).store = s.store := by
  simp [respond]
@[simp] theorem respond_free (s : State) (c : Chan) (tag : Byte) (a : Bool) (r : Reply) : (respond c tag a r s).free = s.free := by
  simp [respond]
@[simp] theorem respond_pending (s : State) (c : Chan) (tag : Byte) (a : Bool) (r : Reply) : (respond c tag a r s).pending = s.pending := by
  simp [respond]

@[simp] theorem deferredOutcome_tables (s : State) (a : Awaits) (c : Chan) (r : Reply) : (deferredOutcome a c r s).tables = s.tables := by
  unfold deferredOutcome; (repeat' split) <;> simp
@[simp] theorem deferredOutcome_console (s : State) (a : Awaits) (c : Chan) (r : Reply) : (deferredOutcome a c r s).console = s.console := by
  unfold deferredOutcome; (repeat' split) <;> simp
@[simp] theorem deferredOutcome_router (s : State) (a : Awaits) (c : Chan) (r : Reply) : (deferredOutcome a c r s).router = s.router := by
  unfold deferredOutcome; (repeat' split) <;> simp
@[simp] theorem deferredOutcome_attention (s : State) (a : Awaits) (c : Chan) (r : Reply) : (deferredOutcome a c r s).attention = s.attention := by
  unfold deferredOutcome; (repeat' split) <;> simp
@[simp] theorem deferredOutcome_focus (s : State) (a : Awaits) (c : Chan) (r : Reply) : (deferredOutcome a c r s).focus = s.focus := by
  unfold deferredOutcome; (repeat' split) <;> simp
@[simp] theorem deferredOutcome_pointer (s : State) (a : Awaits) (c : Chan) (r : Reply) : (deferredOutcome a c r s).pointer = s.pointer := by
  unfold deferredOutcome; (repeat' split) <;> simp
@[simp] theorem deferredOutcome_display (s : State) (a : Awaits) (c : Chan) (r : Reply) : (deferredOutcome a c r s).display = s.display := by
  unfold deferredOutcome; (repeat' split) <;> simp
@[simp] theorem deferredOutcome_links (s : State) (a : Awaits) (c : Chan) (r : Reply) : (deferredOutcome a c r s).links = s.links := by
  unfold deferredOutcome; (repeat' split) <;> simp
@[simp] theorem deferredOutcome_player (s : State) (a : Awaits) (c : Chan) (r : Reply) : (deferredOutcome a c r s).player = s.player := by
  unfold deferredOutcome; (repeat' split) <;> simp
@[simp] theorem deferredOutcome_skipped (s : State) (a : Awaits) (c : Chan) (r : Reply) : (deferredOutcome a c r s).skipped = s.skipped := by
  unfold deferredOutcome; (repeat' split) <;> simp
@[simp] theorem deferredOutcome_store (s : State) (a : Awaits) (c : Chan) (r : Reply) : (deferredOutcome a c r s).store = s.store := by
  unfold deferredOutcome; (repeat' split) <;> simp
@[simp] theorem deferredOutcome_free (s : State) (a : Awaits) (c : Chan) (r : Reply) : (deferredOutcome a c r s).free = s.free := by
  unfold deferredOutcome; (repeat' split) <;> simp
@[simp] theorem deferredOutcome_pending (s : State) (a : Awaits) (c : Chan) (r : Reply) : (deferredOutcome a c r s).pending = s.pending := by
  unfold deferredOutcome; (repeat' split) <;> simp

@[simp] theorem deliverMotion_tables (s : State) (e : Bool) (w p : Int) : (deliverMotion e w p s).tables = s.tables := by
  unfold deliverMotion; (repeat' split) <;> simp
@[simp] theorem deliverMotion_console (s : State) (e : Bool) (w p : Int) : (deliverMotion e w p s).console = s.console := by
  unfold deliverMotion; (repeat' split) <;> simp
@[simp] theorem deliverMotion_router (s : State) (e : Bool) (w p : Int) : (deliverMotion e w p s).router = s.router := by
  unfold deliverMotion; (repeat' split) <;> simp
@[simp] theorem deliverMotion_attention (s : State) (e : Bool) (w p : Int) : (deliverMotion e w p s).attention = s.attention := by
  unfold deliverMotion; (repeat' split) <;> simp
@[simp] theorem deliverMotion_focus (s : State) (e : Bool) (w p : Int) : (deliverMotion e w p s).focus = s.focus := by
  unfold deliverMotion; (repeat' split) <;> simp
@[simp] theorem deliverMotion_display (s : State) (e : Bool) (w p : Int) : (deliverMotion e w p s).display = s.display := by
  unfold deliverMotion; (repeat' split) <;> simp
@[simp] theorem deliverMotion_links (s : State) (e : Bool) (w p : Int) : (deliverMotion e w p s).links = s.links := by
  unfold deliverMotion; (repeat' split) <;> simp
@[simp] theorem deliverMotion_player (s : State) (e : Bool) (w p : Int) : (deliverMotion e w p s).player = s.player := by
  unfold deliverMotion; (repeat' split) <;> simp
@[simp] theorem deliverMotion_mgmt (s : State) (e : Bool) (w p : Int) : (deliverMotion e w p s).mgmt = s.mgmt := by
  unfold deliverMotion; (repeat' split) <;> simp
@[simp] theorem deliverMotion_skipped (s : State) (e : Bool) (w p : Int) : (deliverMotion e w p s).skipped = s.skipped := by
  unfold deliverMotion; (repeat' split) <;> simp
@[simp] theorem deliverMotion_store (s : State) (e : Bool) (w p : Int) : (deliverMotion e w p s).store = s.store := by
  unfold deliverMotion; (repeat' split) <;> simp
@[simp] theorem deliverMotion_free (s : State) (e : Bool) (w p : Int) : (deliverMotion e w p s).free = s.free := by
  unfold deliverMotion; (repeat' split) <;> simp
@[simp] theorem deliverMotion_pending (s : State) (e : Bool) (w p : Int) : (deliverMotion e w p s).pending = s.pending := by
  unfold deliverMotion; (repeat' split) <;> simp

@[simp] theorem settleLayout_tables (s : State) (m : Monitor) (l : Layout) (o : Origin) : (settleLayout m l o s).tables = s.tables := by
  unfold settleLayout; dsimp only; split <;> simp
@[simp] theorem settleLayout_console (s : State) (m : Monitor) (l : Layout) (o : Origin) : (settleLayout m l o s).console = s.console := by
  unfold settleLayout; dsimp only; split <;> simp
@[simp] theorem settleLayout_router (s : State) (m : Monitor) (l : Layout) (o : Origin) : (settleLayout m l o s).router = s.router := by
  unfold settleLayout; dsimp only; split <;> simp
@[simp] theorem settleLayout_attention (s : State) (m : Monitor) (l : Layout) (o : Origin) : (settleLayout m l o s).attention = s.attention := by
  unfold settleLayout; dsimp only; split <;> simp
@[simp] theorem settleLayout_focus (s : State) (m : Monitor) (l : Layout) (o : Origin) : (settleLayout m l o s).focus = s.focus := by
  unfold settleLayout; dsimp only; split <;> simp
@[simp] theorem settleLayout_pointer (s : State) (m : Monitor) (l : Layout) (o : Origin) : (settleLayout m l o s).pointer = s.pointer := by
  unfold settleLayout; dsimp only; split <;> simp
@[simp] theorem settleLayout_links (s : State) (m : Monitor) (l : Layout) (o : Origin) : (settleLayout m l o s).links = s.links := by
  unfold settleLayout; dsimp only; split <;> simp
@[simp] theorem settleLayout_player (s : State) (m : Monitor) (l : Layout) (o : Origin) : (settleLayout m l o s).player = s.player := by
  unfold settleLayout; dsimp only; split <;> simp
@[simp] theorem settleLayout_skipped (s : State) (m : Monitor) (l : Layout) (o : Origin) : (settleLayout m l o s).skipped = s.skipped := by
  unfold settleLayout; dsimp only; split <;> simp
@[simp] theorem settleLayout_store (s : State) (m : Monitor) (l : Layout) (o : Origin) : (settleLayout m l o s).store = s.store := by
  unfold settleLayout; dsimp only; split <;> simp
@[simp] theorem settleLayout_free (s : State) (m : Monitor) (l : Layout) (o : Origin) : (settleLayout m l o s).free = s.free := by
  unfold settleLayout; dsimp only; split <;> simp
@[simp] theorem settleLayout_pending (s : State) (m : Monitor) (l : Layout) (o : Origin) : (settleLayout m l o s).pending = s.pending := by
  unfold settleLayout; dsimp only; split <;> simp

end Sys2Proof.Machine
end

