-- ==== Sys2Proof/Laws/Ops.lean ====
section
/-! SUPPORT. What each shared operation can do, said once: reports (R3), the latch (R181), wake requests (R7), the hold queue (R13 to R15), the pressed counts (R38), the key-down table (R28). -/

namespace Sys2Proof.Machine

/-! ## Reports (R3) -/

theorem offer_active {c : Chan} {s : State} (h : (s.link c).state = .active) (i : Interface)
    (b : List Byte) : offer c i b s = s.emit (.report c i b) := by simp [offer, h]

theorem offer_silent {c : Chan} {s : State} (h : (s.link c).state ≠ .active) (i : Interface)
    (b : List Byte) : offer c i b s = s := by simp [offer, h]

/-- The output log of `t` continues that of `s`. -/
def Continues (s t : State) : Prop := ∃ l, t.sent = s.sent ++ l

theorem Continues.refl (s : State) : Continues s s := ⟨[], by simp⟩

theorem Continues.trans {s t u : State} (h : Continues s t) (k : Continues t u) :
    Continues s u := by
  obtain ⟨l, hl⟩ := h
  obtain ⟨m, hm⟩ := k
  exact ⟨l ++ m, by simp [hm, hl]⟩

theorem Continues.of_eq {s t : State} (h : t.sent = s.sent) : Continues s t := ⟨[], by simp [h]⟩

theorem Continues.offer (c : Chan) (i : Interface) (b : List Byte) (s : State) :
    Continues s (offer c i b s) := by
  unfold Machine.offer
  split
  · exact ⟨_, rfl⟩
  · exact .refl s

theorem Continues.latch (e : Event) (s : State) : Continues s (latch e s) := by
  unfold Machine.latch
  dsimp only
  repeat' split
  · exact .of_eq rfl
  · rename_i c _
    let s1 := s.setMgmt { s.mgmt with latch := addEvent s.mgmt.latch e }
    obtain ⟨l, hl⟩ := Continues.offer c .management (alertBytes e s1) s1
    exact ⟨l, hl⟩
  · exact .of_eq rfl

/-! ## The latch (R181) -/

theorem hasEvent_addEvent (es : EventSet) (e f : Event) :
    hasEvent (addEvent es e) f = (hasEvent es f || e == f) := by
  unfold hasEvent addEvent
  rw [BitVec.getLsbD_or, BitVec.getLsbD_twoPow]
  cases e <;> cases f <;> simp [eventNumber]

@[simp] theorem sendAlert_latch (c : Chan) (e : Event) (s : State) :
    (sendAlert c e s).mgmt.latch = s.mgmt.latch := by
  unfold sendAlert Machine.offer
  dsimp only
  split <;> rfl

@[simp] theorem latch_latch (e : Event) (s : State) :
    (latch e s).mgmt.latch = addEvent s.mgmt.latch e := by
  unfold latch
  dsimp only
  repeat' split
  all_goals simp

/-- Latching writes the latch and the alert-outstanding flag of the Management Unit, nothing else of it. -/
theorem latch_mgmt (e : Event) (s : State) :
    (latch e s).mgmt = { s.mgmt with
      latch := addEvent s.mgmt.latch e
      alertOutstanding := (latch e s).mgmt.alertOutstanding } := by
  unfold latch sendAlert Machine.offer
  dsimp only
  repeat' split
  all_goals rfl

/-! ## Wake requests (R7) -/

theorem wakeRequest_active {c : Chan} {s : State} (h : (s.link c).state = .active) :
    wakeRequest c s = (.awake, s) := by simp [wakeRequest, h]

theorem wakeRequest_detached {c : Chan} {s : State} (h : (s.link c).state = .detached) :
    wakeRequest c s = (.absent, s) := by simp [wakeRequest, h]

theorem wakeRequest_waking {c : Chan} {s : State} (h : (s.link c).state = .waking) :
    wakeRequest c s = (.inProgress, s) := by simp [wakeRequest, h]

theorem wakeRequest_allowed {c : Chan} {s : State} (h : (s.link c).state = .suspended)
    (p : (s.link c).permission = true) : wakeRequest c s = (.started, signalWake c 1 s) := by
  simp [wakeRequest, h, p]

theorem wakeRequest_denied {c : Chan} {s : State} (h : (s.link c).state = .suspended)
    (p : (s.link c).permission = false) :
    wakeRequest c s = (.denied, latch .wakeDenied s) := by simp [wakeRequest, h, p]

/-! ## The hold queue (R11, R13 to R15) -/

theorem placeDown_admitted {c : Chan} {s : State} (h : 2 ≤ (s.link c).free) (i : HoldItem) :
    placeDown c i s = (true, s.setLink c { s.link c with
      queue := (s.link c).queue ++ [i], reserved := (s.link c).reserved + 1 }) := by
  simp [placeDown, h]

theorem placeDown_refused {c : Chan} {s : State} (h : (s.link c).free < 2) (i : HoldItem) :
    placeDown c i s = (false, latch .holdOverflow s) := by
  simp [placeDown, show ¬ 2 ≤ (s.link c).free by omega]

/-- A release takes the place its press reserved: the free places do not change (R14). -/
theorem placeRelease_places {c : Chan} {s : State} (h : 1 ≤ (s.link c).reserved) (i : HoldItem) :
    ((placeRelease c i s).link c).free = (s.link c).free := by
  simp only [placeRelease, State.link_setLink_same, Link.free, List.length_append,
    List.length_cons, List.length_nil]
  omega

/-! ## Pressed counts (R38) -/

theorem countOf_countUp (k j : Code) (m : Counts) :
    countOf j (countUp k m) = if j = k then countOf j m + 1 else countOf j m := by
  induction m with
  | nil =>
    by_cases h : j = k
    · simp [countUp, countOf, h]
    · simp [countUp, countOf, h]
  | cons a t ih =>
    obtain ⟨a, n⟩ := a
    simp only [countUp]
    rcases Nat.lt_trichotomy k a with hk | rfl | hk
    · rcases Nat.lt_trichotomy j k with hj | rfl | hj
      · simp [countOf, hk, hj, lt_trans hj hk, hj.ne]
      · simp [countOf, hk]
      · simp [countOf, hk, not_lt_of_gt hj, hj.ne']
    · by_cases hj : j = k <;> simp [countOf, hj]
    · have h1 : ¬ k < a := not_lt_of_gt hk
      have h2 : k ≠ a := hk.ne'
      simp only [h1, h2, if_false, countOf, ih]
      by_cases hj : j = k
      · simp [hj, h1, h2]
      · simp [hj]

theorem countOf_of_lt {j : Code} {m : Counts} (h : ∀ a ∈ m, j < a.1) : countOf j m = 0 := by
  cases m with
  | nil => rfl
  | cons a t => simp [countOf, h a (by simp)]

theorem countOf_countDown {k j : Code} {m : Counts} (h : Counts.Canonical m) :
    countOf j (countDown k m) = if j = k then countOf j m - 1 else countOf j m := by
  induction m with
  | nil => simp [countDown, countOf]
  | cons a t ih =>
    obtain ⟨a, n⟩ := a
    have ht : Counts.Canonical t := ⟨h.1.of_cons, fun x hx => h.2 x (by simp [hx])⟩
    have hlt : ∀ x ∈ t, a < x.1 := by simpa using (List.pairwise_cons.1 h.1).1
    have hn : 1 ≤ n := h.2 (a, n) (by simp)
    have htail : ∀ i, i ≤ a → countOf i t = 0 := fun i hi =>
      countOf_of_lt fun x hx => lt_of_le_of_lt hi (hlt x hx)
    simp only [countDown]
    rcases Nat.lt_trichotomy k a with hk | rfl | hk
    · by_cases hj : j = k
      · simp [countOf, hk, hj]
      · simp [hk, hj]
    · by_cases hj : j = k
      · subst hj
        by_cases h1 : n ≤ 1
        · simp [countOf, h1, htail j le_rfl]
        · simp [countOf, h1]
      · by_cases h1 : n ≤ 1
        · by_cases hl : j < k
          · simp [countOf, h1, hj, hl, htail j (le_of_lt hl)]
          · simp [countOf, h1, hj, hl]
        · simp [countOf, h1, hj]
    · have h1 : ¬ k < a := not_lt_of_gt hk
      have h2 : k ≠ a := hk.ne'
      simp only [h1, h2, if_false, countOf, ih ht]
      by_cases hj : j = k
      · simp [hj, h1, h2]
      · simp [hj]

/-! ## The key-down table (R28) -/

/-- Changing a target leaves the pairs of the table as they are. -/
theorem setTarget_pairs (p : Port) (k : Code) (t : KeyTarget) (es : List KeyEntry) :
    (setTarget p k t es).map (fun e => (e.port, e.code)) = es.map fun e => (e.port, e.code) := by
  simp only [setTarget, List.map_map]
  congr 1
  funext e
  simp only [Function.comp]
  split <;> rfl

theorem mem_dropEntry {p : Port} {k : Code} {es : List KeyEntry} {e : KeyEntry} :
    e ∈ dropEntry p k es ↔ e ∈ es ∧ ¬(e.port = p ∧ e.code = k) := by
  simp [dropEntry, imp_iff_not_or]

end Sys2Proof.Machine
end

