-- ==== Sys2Proof/WellFormed.lean ====
section
/-! DEFINITION. Which operands a row's rules give a command (11.1, 11.3, R101, R162). The meanings hold for the other operands as well. -/

namespace Sys2Proof

/-- A frame's payload length is a two-byte number (11.3). -/
def Frame.wellFormed (f : Frame) : Bool := f.payload.length ≤ 65535

/-- A report that fails check 0 or check 1 of R162, so none of the sixteen commands' rows takes it. -/
def namesNoCommand (report : List Byte) : Bool :=
  !Machine.reportWellFormed report || (Machine.commandOf? (Machine.byteAt report 1)).isNone

/-- A measured frame size has at least one pixel (R101). -/
def signalWellFormed (detected : Option (Nat × Nat)) : Bool :=
  match detected with
  | none => true
  | some a => 1 ≤ a.1 && 1 ≤ a.2

/-- The operands are those of the command's row. -/
def Instr.wellFormed (i : Instr) : Bool :=
  match i with
  | .pointerReport bytes => bytes.length ≤ 7
  | .headSignalChange _ detected => signalWellFormed detected
  | .unknownCommand _ report => namesNoCommand report
  | .identify _ f => f.wellFormed
  | .readTable _ f => f.wellFormed
  | .writeTable _ f => f.wellFormed
  | .lockTable _ f => f.wellFormed
  | .signTable _ f => f.wellFormed
  | .saveStore _ f => f.wellFormed
  | .setPolicy _ f => f.wellFormed
  | .select _ f => f.wellFormed
  | .recallPreset _ f => f.wellFormed
  | .setLayout _ f => f.wellFormed
  | .wake _ f => f.wellFormed
  | .playMacro _ f => f.wellFormed
  | .readState _ f => f.wellFormed
  | .readEvents _ f => f.wellFormed
  | .clearEvents _ f => f.wellFormed
  | .deskRestart _ f => f.wellFormed
  | .powerOnReset _ => true
  | .configure _ => true
  | .setRemoteWake _ _ => true
  | .suspend _ => true
  | .resume _ => true
  | .wakeWindowExpiry _ => true
  | .linkLoss _ => true
  | .ledOutputReport _ _ => true
  | .getReport _ _ => true
  | .keyboardPortAttach _ _ => true
  | .keyboardPortDetach _ => true
  | .keyboardReport _ _ => true
  | .tapWindowExpiry => true
  | .armWindowExpiry => true
  | .cueElementEnd => true
  | .sleepPulse => true
  | .macroStepExpiry => true
  | .pointerPortAttach _ => true
  | .pointerPortDetach => true
  | .dwellExpiry => true
  | .hotPlugChange _ _ => true
  | .frameStart _ => true
  | .confirmWindowExpiry => true
  | .storeTableWritten => true
  | .storeWriteFailed => true

end Sys2Proof
end

