-- ==== Sys2Proof/Tests/Slice0.lean ====
section
/-! SUPPORT. Tests: refused operands, worked cases of the manual, and for each statement a state and operands that meet its hypotheses. -/

namespace Sys2Proof.Tests

open Sys2Proof Sys2Proof.Machine

set_option Elab.async false

/-! ## States -/

/-- A link in a state, as reset but for it. -/
def linkIn (st : LinkState) : Link := { Link.reset with state := st }

/-- Link 1 ACTIVE, 2 SUSPENDED with the permission, 3 SUSPENDED without, 4 WAKING on its first try, the others DETACHED. -/
def links4 : Vector Link 8 :=
  #v[linkIn .active, { linkIn .suspended with permission := true }, linkIn .suspended,
    { linkIn .waking with permission := true, window := some 500, tries := 1 }, .reset, .reset,
    .reset, .reset]

/-- The factory part with those links, devices on all three ports, and M1 connected with the pointer on it. -/
def up : State :=
  { State.reset with
    links := links4
    console := ⟨⟨.active, []⟩, ⟨.active, []⟩, ⟨.active, noButtons⟩⟩
    pointer := { Pointer.reset with x := 960, y := 540, parked := false, channel := some 0 }
    display := { State.reset.display with
      monitors := put State.reset.display.monitors 0
        { factoryMonitorRun 0 with connected := true, picture := some ⟨1920, 1080, []⟩ } } }

/-- `up` with the focus on a channel or on none. -/
def upAt (c : Option Chan) : State := { up with focus := { up.focus with channel := c } }

/-- A state with one channel's link replaced. -/
def withLink (c : Chan) (l : Link) (s : State) : State := { s with links := put s.links c l }

/-- A state with one channel's record replaced. -/
def withRec (c : Chan) (r : ChannelRec) (s : State) : State :=
  { s with tables := { s.tables with channels := put s.tables.channels c r } }

/-- A state with one key of KEY down. -/
def withKey (k : Code) (t : KeyTarget) (s : State) : State :=
  { s with
    console := { s.console with key := ⟨.active, [k]⟩ }
    router := { s.router with entries := [⟨.key, k, t⟩] } }

/-- A player on a channel, before the first step of macro 1. -/
def playerOn (c : Chan) (playing : Bool) (steps : List MacroStep) : Player :=
  { playing := playing, number := 0, chan := c, copy := ⟨8, steps⟩, index := 1, tapHalf := none,
    wait := 8, pressed := [] }

/-- A state with that player. -/
def withPlayer (p : Player) (s : State) : State := { s with player := some p }

/-- A frame of level 0 with a payload and no table. -/
def plain (payload : List Byte) : Frame := ⟨7, 0, 0, 0, 0, payload⟩

/-- A frame of level 0 that names records of a table. -/
def tableFrame (t first count : Byte) (payload : List Byte) : Frame := ⟨7, 0, t, first, count, payload⟩

/-! ## Refused operands -/

theorem test_refuses_long_pointer_report :
    (Instr.pointerReport [0, 0, 0, 0, 0, 0, 0, 0]).wellFormed = false ∧
    (Instr.pointerReport [0, 0, 0, 0, 0, 0, 0]).wellFormed = true := by decide

theorem test_refuses_empty_head_signal :
    (Instr.headSignalChange 0 (some (0, 1080))).wellFormed = false ∧
    (Instr.headSignalChange 0 (some (1, 1))).wellFormed = true := by decide

theorem test_refuses_named_unknown_command :
    (Instr.unknownCommand 0 [1, 16, 0, 0, 0, 0, 0, 0]).wellFormed = false ∧
    (Instr.unknownCommand 0 [1, 17, 0, 0, 0, 0, 0, 0]).wellFormed = true ∧
    (Instr.unknownCommand 0 [1, 16, 0, 0, 0, 0, 0]).wellFormed = true := by decide

theorem test_refuses_long_frame :
    ∀ p : List Byte, p.length = 65536 → (Instr.select 0 (plain p)).wellFormed = false := by
  intro p hp
  simp [Instr.wellFormed, Frame.wellFormed, plain, hp]

/-! ## Worked cases -/

/-- 7.4, gain and accumulation. -/
theorem test_gain_and_accumulation :
    speedOf 20 (-6) = 23 ∧ gainOf factoryBallistics 23 = 736 ∧
    scaleAxis 100 20 736 = (57, 228) ∧ scaleAxis (-50) (-6) 736 = (-17, -114) := by decide

/-- 7.4, the cap. -/
theorem test_gain_cap :
    gainOf factoryBallistics (speedOf 100 0) = 768 ∧ scaleAxis 0 100 768 = (300, 0) := by decide

/-- 7.5, the mapping. -/
theorem test_mapping_numbers :
    absoluteCoordinate 3080 3840 = 26289 ∧ absoluteCoordinate 600 1080 = 18221 ∧
    absoluteCoordinate 3839 3840 = 32767 := by decide

/-- 11.5, the factory AUTHORITY table after two bytes. -/
theorem test_signature_authority : signature [0x00, 0x03] = 0x2D6C#16 := by decide +kernel

/-- 7.4, resolution, cases A and B: M1 and M2 live. -/
def twoLive : State :=
  { up with display := { up.display with
      monitors := put up.display.monitors 1 { factoryMonitorRun 1 with connected := true } } }

theorem test_resolution_case_a :
    (movePointer 20 0 (twoLive.setPointer { up.pointer with x := 1900, y := 500 })).pointer =
      { up.pointer with x := 1950, y := 500 } := by decide +kernel

theorem test_resolution_case_b :
    (movePointer 15 10 (twoLive.setPointer { up.pointer with x := 1900, y := 1070, fx := 40 })).pointer =
      { up.pointer with x := 1919, y := 1079 } := by decide +kernel

/-- 2.9: one report, four reports on channel 3 (here its link is ACTIVE). -/
theorem test_one_report_four_events :
    ∃ t, exec (.keyboardReport .key ⟨2, 0, 22, 7, 0, 0, 0, 0⟩)
        { withLink 2 (linkIn .active) (upAt (some 2)) with
          console := { up.console with key := ⟨.active, [4, 22, 224]⟩ }
          router := {
            entries := [⟨.key, 4, .channel 2 (some 4) .delivered⟩,
              ⟨.key, 22, .channel 2 (some 22) .delivered⟩,
              ⟨.key, 224, .channel 2 (some 224) .delivered⟩]
            counts := put up.router.counts 2 [(4, 1), (22, 1), (224, 1)] } } = .next t ∧
      t.sent = [.report 2 .keyboard [1, 0, 22, 0, 0, 0, 0, 0, 0, 0, 0, 0, 0, 0],
        .report 2 .keyboard [0, 0, 22, 0, 0, 0, 0, 0, 0, 0, 0, 0, 0, 0],
        .report 2 .keyboard [0, 0, 7, 22, 0, 0, 0, 0, 0, 0, 0, 0, 0, 0],
        .report 2 .keyboard [2, 0, 7, 22, 0, 0, 0, 0, 0, 0, 0, 0, 0, 0]] :=
  ⟨_, rfl, by decide +kernel⟩

/-- 1.3, wake timing: the third expiry fails. -/
theorem test_third_wake_expiry_fails :
    ∃ t, exec (.wakeWindowExpiry 3)
        (withLink 3 { linkIn .waking with permission := true, window := some 500, tries := 3 } up)
        = .next t ∧
      (t.link 3).state = .suspended ∧ (t.link 3).tries = 0 ∧ (t.link 3).permission = true :=
  ⟨_, rfl, by decide +kernel⟩

/-- 3.9: NEXT and PREVIOUS from channel 6. -/
def scanState : State :=
  { upAt (some 5) with
    tables := { up.tables with
      channels := put up.tables.channels 3 { factoryChannel with inCycle := false } }
    links := #v[linkIn .active, .reset, linkIn .suspended, linkIn .active, linkIn .active,
      linkIn .active, .reset, linkIn .waking] }

theorem test_cycle_scan :
    (act .next scanState).2.focus.channel = some 7 ∧
    (act .previous scanState).2.focus.channel = some 4 := by decide +kernel

/-- R186: the signature 29B1H of the nine characters leaves as B1H 29H. -/
theorem test_signature_bytes :
    signatureBytes (signature [0x31, 0x32, 0x33, 0x34, 0x35, 0x36, 0x37, 0x38, 0x39]) = [0xB1, 0x29] := by
  decide +kernel

/-- R90: a step skipped in a macro that has ended is still shown at byte 44 of READ_STATE. -/
theorem test_skipped_shown_after_the_end :
    ∃ t, exec .macroStepExpiry (withPlayer (playerOn 0 true [.press 4])
        (up.setCounts 0 ((List.range 12).map fun k => (k + 5, 1)))) = .next t ∧
      t.player = none ∧ byteAt (statePayload t) 44 = 1 := ⟨_, rfl, by decide +kernel⟩

/-- 11.3: READ_STATE returns 62 bytes; IDENTIFY 19. -/
theorem test_payload_lengths :
    (statePayload up).length = 62 ∧ (identityPayload 0 up).length = 19 := by
  decide +kernel

/-! ## Hypotheses met, statement by statement -/

theorem test_hyps_StepRunsFrontCommand :
    ({ up with pending := [.sleepPulse, .cueElementEnd] } : State).pending =
      .sleepPulse :: [.cueElementEnd] ∧ up.pending = [] := ⟨rfl, rfl⟩

/-- A sleeping channel while another command is carried out. -/
theorem test_hyps_ReportsOnlyOnActiveLinks :
    (∃ t, exec (.suspend 0) up = .next t) ∧ (up.link 1).state ≠ .active ∧
    Instr.suspend 0 ≠ .configure 1 ∧ Instr.suspend 0 ≠ .resume 1 := ⟨⟨_, rfl⟩, by decide +kernel⟩

/-- A part whose store holds no table but MONITORS, in which M1 is too small for preset 0; without that table preset 0
fits. -/
def smallMonitor : List Byte :=
  (monitorImage ⟨true, 0, 0, 1000, 800, 60⟩) ++
    (allMonitors.drop 1).flatMap fun m => monitorImage (factoryMonitor m)

def blankStore : State := { State.reset with store := Vector.replicate 10 none }

def smallStore : State :=
  { blankStore with store := put blankStore.store 3 (some (smallMonitor ++ signatureBytes (signature smallMonitor))) }

def powered (s : State) : State := powerOn (Vector.replicate 6 true) s

theorem test_hyps_PowerOnState :
    exec (.powerOnReset (Vector.replicate 6 true)) blankStore = .next (powered blankStore) ∧
    exec (.powerOnReset (Vector.replicate 6 true)) smallStore = .next (powered smallStore) :=
  ⟨rfl, rfl⟩

theorem test_hyps_PowerOnState_live :
    (powered blankStore).liveMonitors.head? = some 0 ∧
    (powerOn (Vector.replicate 6 false) blankStore).liveMonitors = [] := by decide +kernel

theorem test_hyps_PowerOnState_preset :
    nth (nth (powered blankStore).tables.presets 0) 0 = some (factoryPart 0) := by decide +kernel

theorem test_hyps_PowerOnState_fits :
    (powered blankStore).layoutOk 0 (factoryPart 0) = true := by decide +kernel

theorem test_hyps_PowerOnState_blank :
    nth (nth (powered smallStore).tables.presets 0) 0 = some (factoryPart 0) := by decide +kernel

theorem test_hyps_PowerOnState_small :
    geometryOk (powered smallStore).tables 0 (factoryPart 0) = false ∧
    (powered smallStore).layoutOk 0 (factoryPart 0) = false := by decide +kernel

theorem test_hyps_ConfigureBringsUp :
    (up.link 4).state = .detached ∧ (up.link 0).state ≠ .detached ∧
    (up.link 3).state ≠ .detached := by decide +kernel

theorem test_hyps_LinkLossEffects :
    (up.link 4).state = .detached ∧ (up.link 1).state ≠ .detached ∧
    (up.link 0).state ≠ .detached ∧ up.focus.channel = some 0 := by decide +kernel

/-- A player playing on channel 1, with the remote wake allowed and denied. -/
def playingOn0 (wake : Bool) : State :=
  withPlayer (playerOn 0 true [.pause 0]) (withLink 0 { linkIn .active with remoteWake := wake } up)

theorem test_hyps_SuspendEffects :
    (up.link 0).state = .active ∧ up.player = none ∧
    ((playingOn0 true).link 0).state = .active ∧ ((playingOn0 true).link 0).remoteWake = true ∧
    (playingOn0 true).player = some (playerOn 0 true [.pause 0]) ∧
    ((playingOn0 false).link 0).remoteWake = false ∧
    (playerOn 0 true [.pause 0]).chan = 0 ∧ (playerOn 0 true [.pause 0]).playing = true := by
  decide +kernel

theorem test_hyps_ResumeEffects :
    (up.link 0).state = .active ∧ (up.link 1).state = .suspended ∧ (up.link 3).state = .waking ∧
    up.serves 1 = false ∧ (up.link 1).queue = [] ∧
    (withPlayer (playerOn 3 false [.pause 0]) up).player = some (playerOn 3 false [.pause 0]) ∧
    (playerOn 3 false [.pause 0]).chan = 3 := by decide +kernel

theorem keyTableSorted_up : KeyTableSorted up := List.Pairwise.nil

theorem countsCanonical_up : CountsCanonical up := fun c => by
  have h : up.counts c = [] := nth_replicate _ _
  rw [h]; exact ⟨List.Pairwise.nil, by simp⟩

theorem test_hyps_DrainItemEffects :
    (up.link 0).state = .active ∧ KeyTableSorted up ∧ countOf 4 (up.counts 0) = 0 ∧
    nth (put up.pointer.buttons 4 (some (.channel 0 .queued))) 4 = some (.channel 0 .queued) :=
  ⟨by decide +kernel, keyTableSorted_up, by decide +kernel⟩

theorem test_hyps_WakeWindowExpiry :
    (up.link 0).state ≠ .waking ∧ (up.link 3).state = .waking ∧
    (up.link 3).tries < (up.chanRec 3).wakeTries ∧
    ((withLink 3 { linkIn .waking with tries := 3 } up).link 3).state = .waking ∧
    (up.chanRec 3).wakeTries ≤ ((withLink 3 { linkIn .waking with tries := 3 } up).link 3).tries ∧
    up.serves 3 = false ∧ (withPlayer (playerOn 3 false [.pause 0]) up).serves 3 = true := by
  decide +kernel

/-- Channels 5, 1, 4, 2, 3 stand for the five rows of R7. -/
theorem test_hyps_WakeRequests :
    (up.link 4).state = .detached ∧ (up.link 0).state = .active ∧ (up.link 3).state = .waking ∧
    (up.link 1).state = .suspended ∧ (up.link 1).permission = true ∧
    (up.link 2).state = .suspended ∧ (up.link 2).permission = false ∧
    Accepted .wake 0 (plain [5]) up ∧ Accepted .wake 0 (plain [2]) up ∧
    Accepted .wake 0 (plain [0]) up ∧ byteAt (plain [0]).payload 0 = 0 ∧
    (plain [5]).payload = [byteOf ((4 : Chan).val + 1)] := by
  unfold Accepted; decide +kernel

theorem test_hyps_LedsAndCurrentReports :
    (up.link 1).state ≠ .active ∧ (up.link 0).state = .active ∧
    nth up.pointer.lastAbs 0 = none ∧ nth up.mgmt.slots 0 = none ∧
    (∃ r, nth (up.setSlot 0 (some ⟨7, .ok, 0, false, [], none⟩)).mgmt.slots 0 = some r) ∧
    nth (put up.pointer.lastAbs 0 (some (32767, 0))) 0 = some (32767, 0) :=
  ⟨by decide +kernel, by decide +kernel, by decide +kernel, by decide +kernel, ⟨_, rfl⟩,
    by decide +kernel⟩

theorem test_hyps_KeyboardPorts :
    Port.aux ≠ .key ∧ (up.keyPort .key).state = .active ∧
    (State.reset.keyPort .key).state = .absent ∧
    ((up.setKeyPort .key ⟨.rejected, []⟩).keyPort .key).state = .rejected ∧
    KeyTableSorted up ∧ CountsCanonical up ∧
    (∃ e ∈ (withKey 71 .pendingTap up).router.entries, e.port = .key ∧ e.target = .pendingTap) ∧
    (∀ e ∈ up.router.entries, e.port = .key → e.target ≠ .pendingTap) :=
  ⟨by decide, by decide, by decide, by decide, keyTableSorted_up, countsCanonical_up,
    ⟨_, List.mem_singleton.2 rfl, rfl, rfl⟩, fun _ h => nomatch h⟩

/-- Codes 1 and 3, a repeated code, 165 and 224 in a slot are held; 0, 4 and 164 are taken. -/
theorem test_hyps_KeyboardReports :
    (up.keyPort .key).state = .active ∧
    reportHeld ⟨0, 0, 1, 0, 0, 0, 0, 0⟩ = true ∧ reportHeld ⟨0, 0, 3, 0, 0, 0, 0, 0⟩ = true ∧
    reportHeld ⟨0, 0, 4, 0, 4, 0, 0, 0⟩ = true ∧ reportHeld ⟨0, 0, 165, 0, 0, 0, 0, 0⟩ = true ∧
    reportHeld ⟨0, 0, 224, 0, 0, 0, 0, 0⟩ = true ∧
    ([4, 0, 0, 164, 0, 0].filter (· != 0)).Nodup ∧
    (∀ k ∈ [4, 0, 0, 164, 0, 0], k = 0 ∨ (4 ≤ k ∧ k ≤ 164)) ∧
    reportHeld ⟨128, 0, 4, 0, 0, 164, 0, 0⟩ = false := by decide

/-- Key 5 goes up and keys 4 and 231 go down. -/
theorem test_hyps_KeyboardReports_events :
    reportHeld ⟨128, 0, 4, 0, 0, 0, 0, 0⟩ = false ∧ [5].Pairwise (· < ·) ∧
    [4, 231].Pairwise (· < ·) ∧ reportCodes ⟨128, 0, 4, 0, 0, 0, 0, 0⟩ = [4, 231] ∧
    (∀ k, k ∈ [5] ↔ k ∈ [5] ∧ k ∉ [4, 231]) ∧ (∀ k, k ∈ [4, 231] ↔ k ∈ [4, 231] ∧ k ∉ [5]) := by
  refine ⟨by decide, by decide, by decide, by decide, ?_, ?_⟩ <;> intro k <;> simp <;> omega

/-- A link with a full queue. -/
def fullLink (st : LinkState) (permission : Bool) : Link :=
  { linkIn st with
    permission := permission, queue := List.replicate 31 (.buttonUp 0 true), reserved := 0 }

theorem test_hyps_TypedKey :
    isOrdinary 4 = true ∧ isOrdinary 164 = true ∧ up.keyPort .key = ⟨.active, []⟩ ∧
    up.attention = .idle ∧ 4 ≠ up.tables.desk.attentionCode ∧
    up.findHotkey .chord .key 4 = none ∧ up.findHotkey .chord .key 164 = none := by
  decide +kernel

/-- Keys 4 and 5 as one report, where key 4 is held already: 5 joins; and where both are held, key 5 leaves. -/
theorem test_hyps_TypedKey_joins :
    (withKey 4 .consumed up).keyPort .key = ⟨.active, [4]⟩ ∧ 5 ∉ [4] ∧ 5 ∈ [4, 5] ∧ [4, 5].Nodup ∧
    reportHeld ⟨0, 0, 4, 5, 0, 0, 0, 0⟩ = false ∧ reportCodes ⟨0, 0, 4, 5, 0, 0, 0, 0⟩ = [4, 5] ∧
    (∀ j, j ∈ [4, 5] ↔ j = 5 ∨ j ∈ [4]) ∧ (∀ j, j ∈ [4] ↔ j ∈ [4, 5] ∧ j ≠ 5) ∧
    reportHeld (oneKeyReport 4) = false ∧ reportCodes (oneKeyReport 4) = [4] ∧
    5 ≠ up.tables.desk.attentionCode ∧ (withKey 4 .consumed up).findHotkey .chord .key 5 = none := by
  refine ⟨by decide, by decide, by decide, by decide, by decide, by decide, ?_, ?_, by decide,
    by decide, by decide, by decide +kernel⟩ <;> intro j <;> simp <;> omega

/-- The fates of a press, by the focus channel's state. -/
theorem test_hyps_TypedKey_fates :
    (upAt none).focus.channel = none ∧ up.translate 0 4 = some 4 ∧
    ({ withRec 0 { factoryChannel with keymap := 1 } up with
        tables := { up.tables with
          channels := put up.tables.channels 0 { factoryChannel with keymap := 1 }
          keymaps := put up.tables.keymaps 0 [(4, none)] } } : State).translate 0 4 = none ∧
    up.serves 0 = false ∧ (up.link 0).queue = [] ∧ (up.link 3).state = .waking ∧
    (withPlayer (playerOn 0 true [.pause 0]) up).serves 0 = true ∧
    2 + (up.link 3).queue.length + (up.link 3).reserved ≤ 32 ∧
    32 < 2 + (fullLink .waking true).queue.length + (fullLink .waking true).reserved ∧
    (up.chanRec 1).wakeOnInput = true ∧ (up.link 1).permission = true ∧
    (up.link 2).permission = false ∧
    ((withRec 1 { factoryChannel with wakeOnInput := false } up).chanRec 1).wakeOnInput = false ∧
    (up.link 4).state = .detached := by decide +kernel

theorem test_hyps_ReleasedKey :
    (withKey 4 .consumed up).keyPort .key = ⟨.active, [4]⟩ ∧
    (∀ t ∈ [KeyTarget.consumed, .pendingTap, .channel 0 none .delivered,
        .channel 3 (some 5) .queued, .channel 0 (some 5) .delivered],
      findEntry .key 4 (withKey 4 t up).router.entries = some ⟨.key, 4, t⟩) ∧
    findEntry .key 4 up.router.entries = none ∧ up.deliverable 0 = true ∧ up.deliverable 1 = false := by decide +kernel

/-- A key of KEY and a button held on channel 1, with a command waiting. -/
def heldKey : State :=
  { up with
    console := ⟨⟨.active, [4]⟩, ⟨.active, []⟩, ⟨.active, put noButtons 0 true⟩⟩
    router := ⟨[⟨.key, 4, .channel 0 (some 4) .delivered⟩], put (Vector.replicate 8 []) 0 [(4, 1)]⟩
    pointer := { up.pointer with
      buttons := put up.pointer.buttons 0 (some (.channel 0 .delivered))
      held := put up.pointer.held 0 (put noButtons 0 true) }
    pending := [.sleepPulse] }

theorem heldKey_counts (c : Chan) : heldKey.counts c = if 0 = c then [(4, 1)] else [] := by
  have h : heldKey.counts c = nth (put (Vector.replicate 8 []) 0 [(4, 1)]) c := rfl
  rw [h, nth_put, nth_replicate]

theorem heldKey_queues : ∀ c, (heldKey.link c).queue = [] ∧ (heldKey.link c).reserved = 0 := by
  decide +kernel

theorem heldKey_queueSound (c : Chan) : QueueSound heldKey c := by
  have hb : ∀ c b, nth heldKey.pointer.buttons b ≠ some (.channel c .queued) := by decide +kernel
  have he : heldKey.router.entries = [⟨.key, 4, .channel 0 (some 4) .delivered⟩] := rfl
  simp [QueueSound, heldKey_queues c, hb, he]

theorem keysSound_heldKey : KeysSound heldKey := by
  refine ⟨List.pairwise_singleton _ _, ?_, fun p h => absurd (by cases p <;> rfl) h,
    by decide +kernel, ?_, by decide, by decide +kernel, heldKey_queueSound, ?_, ?_⟩
  · intro c
    rw [heldKey_counts]
    split <;> simp [Counts.Canonical]
  · intro k p h
    cases h
  · intro pl h
    cases h
  · intro c k
    have he : heldKey.router.entries = [⟨.key, 4, .channel 0 (some 4) .delivered⟩] := rfl
    have hp : heldKey.player = none := rfl
    rw [heldKey_counts]
    unfold contributors
    rw [he, hp]
    by_cases hc : (0 : Chan) = c
    · subst hc
      by_cases hk : k = 4
      · subst hk; decide
      · have : (4 : Nat) ≠ k := fun h => hk h.symm
        simp [countOf, hk, this]
    · simp [countOf, hc]

theorem test_hyps_KeysSoundKept : KeysSound heldKey ∧ ∃ t, step heldKey = .next t :=
  ⟨keysSound_heldKey, _, rfl⟩

theorem test_hyps_ButtonsSoundKept :
    KeysSound heldKey ∧ ButtonsSound heldKey ∧ ∃ t, step heldKey = .next t := by
  refine ⟨keysSound_heldKey, fun c b => ?_, _, rfl⟩
  have hb : ∀ c b, nth heldKey.pointer.buttons b ≠ some (.channel c .queued) := by decide +kernel
  have hd : ∀ c b, nth (heldKey.held c) b = true ↔
      nth heldKey.pointer.buttons b = some (.channel c .delivered) := by decide +kernel
  simp [heldKey_queues c, hb, hd]

theorem test_hyps_PressedSetsFitKept :
    KeysSound heldKey ∧ CodesSound heldKey ∧ ∃ t, step heldKey = .next t := by
  refine ⟨keysSound_heldKey, ⟨fun p => by cases p <;> decide, ?_, ?_, ?_, ?_, fun c => ?_⟩, _, rfl⟩
  · intro e he c t st ht
    simp only [heldKey, List.mem_singleton] at he
    subst he
    cases ht
    decide
  · intro i a ha
    have h : nth heldKey.tables.keymaps i = [] := nth_replicate _ _
    rw [h] at ha
    cases ha
  · intro m st hst
    have h : nth heldKey.tables.macros m = factoryMacro := nth_replicate _ _
    rw [h, factoryMacro, List.mem_singleton] at hst
    subst hst
    simp [MacroStep.InRange]
  · intro pl h
    cases h
  · have h : heldKey.pressedSet c = if 0 = c then [4] else [] := by
      have : heldKey.pressedSet c = (heldKey.counts c).map (·.1) := rfl
      rw [this, heldKey_counts]
      split <;> rfl
    rw [h]
    split <;> simp [fitsReport, isModifier, isKeyCode, isOrdinary]

theorem test_hyps_KeyboardReportComposition :
    [4, 5, 6, 7, 8, 9, 10, 11, 12, 13, 14, 164, 224, 231].Pairwise (· < ·) ∧
    (∀ k ∈ [4, 5, 6, 7, 8, 9, 10, 11, 12, 13, 14, 164, 224, 231],
      isOrdinary k = true ∨ isModifier k = true) ∧
    ([4, 5, 6, 7, 8, 9, 10, 11, 12, 13, 14, 164, 224, 231].filter (isOrdinary ·)).length ≤ 12 := by
  decide

/-- The attention code withheld on KEY, and a first tap complete. -/
def tapDown71 : State := { withKey 71 .pendingTap up with attention := .tapDown 71 .key }

def tapUp71 : State := { up with attention := .tapUp 71 .key 400 }

/-- What follows: a second key of KEY, and on AUX a key, the attention code, a modifier; with no CHORD entry that matches, and with
one. -/
theorem test_hyps_KeyDownsExamined_ended :
    tapDown71.attention = .tapDown 71 .key ∧ tapDown71.keyPort .aux = ⟨.active, []⟩ ∧
    tapDown71.keyPort .key = ⟨.active, [71]⟩ ∧ 4 ∉ [71] ∧
    reportCodes ⟨0, 0, 71, 4, 0, 0, 0, 0⟩ = [4, 71] ∧ reportHeld ⟨0, 0, 71, 4, 0, 0, 0, 0⟩ = false ∧
    findEntry .key 71 tapDown71.router.entries = some ⟨.key, 71, .pendingTap⟩ ∧
    tapUp71.attention = .tapUp 71 .key 400 ∧ tapUp71.keyPort .aux = ⟨.active, []⟩ ∧ 225 ≠ 71 ∧
    (∀ j ∈ [4, 71, 225], ∀ i, (nth up.tables.hotkeys i).kind ≠ .chord ∨
      entryMatches (nth up.tables.hotkeys i) .aux j up.heldModifiers = false) := by decide +kernel

/-- The attention key of IDLE, no attention key, and what `taken` and `first` stand for. -/
theorem test_hyps_KeyDownsExamined :
    up.attention = .idle ∧ up.tables.desk.attentionCode = 71 ∧ 71 ≠ 0 ∧ 71 ≠ 4 ∧
    ({ factoryDesk with attentionCode := 0 } : Desk).attentionCode = 0 := by decide +kernel

theorem test_hyps_KeyDownsExamined_terms (s : State) :
    (∃ taken : Port → Code → State → Prop, ∀ q j v, taken q j v ↔ keyDown q j s = v ∧ ∀ r,
      (s.keyPort q).state = .active → reportHeld r = false → j ∉ (s.keyPort q).last →
      (∀ i, i ∈ reportCodes r ↔ i = j ∨ i ∈ (s.keyPort q).last) →
      exec (.keyboardReport q r) s = .next (v.setKeyPort q ⟨.active, reportCodes r⟩)) ∧
    ∃ first : State → HotkeyKind → Port → Code → Fin 32 → Prop, ∀ u kind p k i,
      first u kind p k i ↔ ((nth u.tables.hotkeys i).kind = kind ∧
        entryMatches (nth u.tables.hotkeys i) p k u.heldModifiers = true ∧
        ∀ j, j < i → (nth u.tables.hotkeys j).kind ≠ kind ∨
          entryMatches (nth u.tables.hotkeys j) p k u.heldModifiers = false) :=
  ⟨⟨_, fun _ _ _ => Iff.rfl⟩, _, fun _ _ _ _ _ => Iff.rfl⟩

/-- The late tap by the focus channel: none, one that blocks the code, and channels 1, 4, 2, 3, 5 of `up`. -/
theorem test_hyps_WindowExpiries :
    ({ upAt none with attention := .tapUp 71 .key 400 } : State).focus.channel = none ∧
    (upAt (some 3)).focus.channel = some 3 ∧ up.translate 3 71 = some 71 ∧
    ({ up with tables := { up.tables with
      channels := put up.tables.channels 0 { factoryChannel with keymap := 1 }
      keymaps := put up.tables.keymaps 0 [(71, none)] } } : State).translate 0 71 = none ∧
    (up.link 0).state = .active ∧ up.serves 0 = false ∧ (up.link 0).queue = [] ∧
    (up.link 3).state = .waking ∧ 2 + (up.link 3).queue.length + (up.link 3).reserved ≤ 32 ∧
    (up.link 1).state = .suspended ∧ (up.chanRec 1).wakeOnInput = true ∧
    (up.link 1).permission = true ∧ (up.link 2).permission = false ∧
    up.deliverable 3 = false ∧
    32 < 2 + (fullLink .waking true).queue.length + (fullLink .waking true).reserved ∧
    (up.link 4).state = .detached ∧
    ({ up with attention := .armed 2000 } : State).attention = .armed 2000 ∧
    up.attention = .idle := by decide +kernel

/-- `up` with a CHORD entry for key 7. -/
def chordUp : State :=
  { up with tables := { up.tables with
      hotkeys := put up.tables.hotkeys 28 { factoryAttention 7 .next with kind := .chord } } }

/-- Left control held on KEY, and a CHORD entry for it with key 7. -/
def controlUp : State :=
  { withKey 224 .consumed up with tables := { up.tables with
      hotkeys := put up.tables.hotkeys 28
        { factoryAttention 7 .next with kind := .chord, compare := 1, mask := 1 } } }

/-- Key 7 has chord entry 28, and another one with left control held on the same port; key 4 has none. -/
theorem test_hyps_KeyDownsExamined_chord :
    (∀ s ∈ [chordUp, controlUp], s.attention = .idle ∧ s.tables.desk.attentionCode ≠ 7 ∧
      (nth s.tables.hotkeys 28).kind = .chord ∧
      entryMatches (nth s.tables.hotkeys 28) .key 7 s.heldModifiers = true ∧
      ∀ j, j < 28 → (nth s.tables.hotkeys j).kind ≠ .chord ∨
        entryMatches (nth s.tables.hotkeys j) .key 7 s.heldModifiers = false) ∧
    controlUp.keyPort .key = ⟨.active, [224]⟩ ∧ 7 ∉ [224] ∧
    reportCodes ⟨1, 0, 7, 0, 0, 0, 0, 0⟩ = [7, 224] ∧ reportHeld ⟨1, 0, 7, 0, 0, 0, 0, 0⟩ = false ∧
    entryMatches (nth controlUp.tables.hotkeys 28) .key 7 up.heldModifiers = false ∧
    (∀ i, (nth up.tables.hotkeys i).kind ≠ .chord ∨
      entryMatches (nth up.tables.hotkeys i) .key 4 up.heldModifiers = false) := by decide +kernel

/-- In ARMED, key 58 has factory entry 16 and key 100 has none; a modifier is the trigger of no entry. -/
theorem test_hyps_KeyDownsExamined_armed :
    isModifier 58 = false ∧ isModifier 100 = false ∧ isModifier 225 = true ∧
    ({ up with attention := .armed 2000 } : State).attention = .armed 2000 ∧
    (nth up.tables.hotkeys 16).kind = .attention ∧
    entryMatches (nth up.tables.hotkeys 16) .key 58 up.heldModifiers = true ∧
    (∀ j, j < 16 → (nth up.tables.hotkeys j).kind ≠ .attention ∨
      entryMatches (nth up.tables.hotkeys j) .key 58 up.heldModifiers = false) ∧
    (∀ i, (nth up.tables.hotkeys i).kind ≠ .attention ∨
      entryMatches (nth up.tables.hotkeys i) .key 100 up.heldModifiers = false) ∧
    (∀ i, (nth up.tables.hotkeys i).InRange) ∧
    (∀ i, (nth up.tables.hotkeys i).kind ≠ .chord ∨
      entryMatches (nth up.tables.hotkeys i) .key 225 up.heldModifiers = false) := by
  unfold HotkeyEntry.InRange; decide +kernel

/-- A pending confirmation of a SET_POLICY. -/
def pendingPolicy : Confirm := ⟨0, .setPolicy, plain [1, 0, 2, 3, 0, 0], 10⟩

def withConfirm (cf : Confirm) (s : State) : State := { s with mgmt := { s.mgmt with confirm := some cf } }

theorem test_hyps_ActionTable :
    (up.link 4).state = .detached ∧ (up.link 0).state ≠ .detached ∧ (up.link 1).state ≠ .detached ∧
    up.focus.channel = some 0 ∧ up.focus.channel ≠ some 1 ∧ (upAt none).focus.channel = none ∧
    (up.link 1).state = .suspended ∧ (up.link 1).permission = true ∧
    (up.link 2).state = .suspended ∧ (up.link 2).permission = false ∧
    (up.link 3).state = .waking ∧
    (∀ c, (State.reset.link c).state ≠ .suspended ∨ (State.reset.link c).permission = false) ∧
    up.mgmt.confirm = none ∧ up.player = none ∧
    (withConfirm pendingPolicy up).mgmt.confirm = some pendingPolicy ∧
    (withPlayer (playerOn 0 true [.pause 0]) up).player = some (playerOn 0 true [.pause 0]) ∧
    (withConfirm pendingPolicy (withPlayer (playerOn 0 true [.pause 0]) up)).mgmt.confirm =
      some pendingPolicy ∧
    (∀ c, (upAt (some c)).focus.channel = some c ∧ (upAt (some c)).player = none) ∧
    (act .pin up).1 = false ∧ (act .confirm up).1 = true := by
  decide +kernel

/-- 3.9 from channel 6: 8 is next, 5 is previous; with focus NONE 1 is next and 8 previous; and an empty cycle set. -/
theorem test_hyps_CycleScan :
    (∀ m, (scanState.link m).state ≠ .detached → (scanState.chanRec m).inCycle = true →
      ((7 : Chan).val + 7 - 5) % 8 ≤ (m.val + 7 - 5) % 8 ∧
      (5 + 7 - (4 : Chan).val) % 8 ≤ (5 + 7 - m.val) % 8 ∧ 0 ≤ m ∧ m ≤ 7) ∧
    (∀ n ∈ [(0 : Chan), 4, 7], (scanState.link n).state ≠ .detached ∧
      (scanState.chanRec n).inCycle = true) ∧ scanState.focus.channel = some 5 ∧
    (∀ c, (State.reset.link c).state = .detached ∨ (State.reset.chanRec c).inCycle = false) := by
  decide +kernel

/-- A part in which channel 2 is of group 1, and one in which channel 1 is RELATIVE. -/
def otherGroup : State := withRec 1 { factoryChannel with group := 1 } up

def captive0 : State := withRec 0 { factoryChannel with pointerMode := .relative } up

theorem test_hyps_FocusJudgement :
    (up.link 4).state = .detached ∧ (up.link 1).state ≠ .detached ∧ up.focus.channel = some 0 ∧
    up.focus.channel ≠ some 1 ∧ up.focus.pinned = false ∧
    ({ up with focus := { up.focus with pinned := true } } : State).focus.pinned = true ∧
    captive0.focus.channel = some 0 ∧ (captive0.chanRec 0).pointerMode = .relative ∧
    (∀ f, up.focus.channel = some f → (up.chanRec f).pointerMode = .absolute) ∧
    otherGroup.mgmt.policy.glides (otherGroup.chanRec 0).group (otherGroup.chanRec 1).group = false ∧
    up.mgmt.policy.glides (up.chanRec 0).group (up.chanRec 1).group = true ∧
    judgeFocus .glide 1 up = .changed ∧ judgeFocus .glide 4 up ≠ .changed := by decide +kernel

/-- A shift held on channel 1 while the focus moves to channel 2 or 4, or across groups. -/
theorem test_hyps_FocusChanges :
    KeyTableSorted (withKey 225 (.channel 0 (some 225) .delivered) up) ∧
    up.focus.channel ≠ some 1 ∧ (up.link 1).state ≠ .detached ∧ isModifier 225 = true ∧
    (up.chanRec 0).group = (up.chanRec 1).group ∧
    (otherGroup.chanRec 0).group ≠ (otherGroup.chanRec 1).group ∧
    (up.link 1).state = .suspended ∧ (up.link 1).permission = true ∧
    (up.link 2).permission = false ∧ (up.chanRec 1).wakeOnFocus = true ∧
    up.translate 1 225 = some 225 ∧ up.deliverable 1 = false ∧
    (withLink 1 (linkIn .active) up).deliverable 1 = true :=
  ⟨List.pairwise_singleton _ _, by decide +kernel⟩

/-- A dwell toward channel 2. -/
def dwelling : State := { up with focus := { up.focus with dwell := some ⟨1, 150⟩ } }

theorem test_hyps_FocusMovesOnlyWhereAllowed :
    ∃ t, exec .dwellExpiry dwelling = .next t ∧ t.focus.channel ≠ dwelling.focus.channel ∧
      resetsFocus .dwellExpiry = false ∧ glideOnly .dwellExpiry = true ∧
      dwelling.focus.channel = some 0 := ⟨_, rfl, by decide +kernel⟩

/-- SELECT of no channel, of a DETACHED one, of the focus channel and of another; captive and its end. -/
theorem test_hyps_FocusChanges_select :
    Accepted .select 0 (plain [0]) up ∧ Accepted .select 0 (plain [9]) up ∧
    8 < byteAt (plain [9]).payload 0 ∧ (captive0.chanRec 1).pointerMode = .absolute ∧
    Accepted .select 0 (plain [5]) up ∧ Accepted .select 0 (plain [1]) up ∧
    Accepted .select 0 (plain [2]) up ∧ (up.link 4).state = .detached ∧
    (up.link 0).state ≠ .detached ∧ up.focus.channel = some 0 ∧ (up.link 1).state ≠ .detached ∧
    up.captive = false ∧ captive0.captive = true ∧ captive0.tables.desk.dwell ≠ 0 := by
  unfold Accepted; decide +kernel

theorem test_hyps_CueAndLamps :
    up.focus.cue = none ∧
    (requestCue .refused up).focus.cue = some ⟨.refused, 0, 2⟩ ∧ up.tables.desk.cueVolume = 2 := by
  decide +kernel

/-- PLAY_MACRO at each link state, and with the player busy. -/
theorem test_hyps_MacroStart :
    Accepted .playMacro 0 (plain [1, 1]) up ∧ Accepted .playMacro 0 (plain [8, 2]) up ∧
    Accepted .playMacro 0 (plain [1, 3]) up ∧ Accepted .playMacro 0 (plain [1, 4]) up ∧
    Accepted .playMacro 0 (plain [1, 5]) up ∧ Accepted .playMacro 0 (plain [9, 0]) up ∧
    8 < byteAt (plain [9, 0]).payload 0 ∧ byteAt (plain [9, 0]).payload 1 = 0 ∧ up.player = none ∧
    (withPlayer (playerOn 0 true [.pause 0]) up).player ≠ none ∧
    (up.link 0).state = .active ∧ (up.link 3).state = .waking ∧
    (up.link 1).state = .suspended ∧ (up.link 1).permission = true ∧
    (up.link 2).permission = false ∧ (up.link 4).state = .detached := by
  unfold Accepted; decide +kernel

/-- One step of each kind, the last step and one before it, and a press that R39 does not allow. -/
theorem test_hyps_MacroSteps :
    (playerOn 0 true [.tap 4, .pause 2000]).index ≤ 2 ∧
    (∀ st ∈ [MacroStep.press 4, .release 4, .tap 4, .pause 0, .pause 2000],
      (playerOn 0 true [st]).copy.steps[(playerOn 0 true [st]).index - 1]? = some st ∧
      (playerOn 0 true [st]).index = (playerOn 0 true [st]).copy.steps.length) ∧
    (playerPress (playerOn 0 true [.press 4]) 4
      (withPlayer (playerOn 0 true [.press 4]) up)).1 = false ∧
    (playerPress (playerOn 0 true [.press 4]) 4
      (up.setCounts 0 ((List.range 12).map fun k => (k + 5, 1)))).1 = true ∧
    ((playerPress (playerOn 0 true [.press 4]) 4
      (withPlayer (playerOn 0 true [.press 4]) up)).2.player).isSome = true ∧
    ({ playerOn 0 true [.tap 4] with tapHalf := some 4 } : Player).tapHalf = some 4 ∧
    (∀ pl, (withPlayer (playerOn 3 false [.pause 0]) up).player = some pl → pl.playing = false) :=
  ⟨by decide, by decide, by decide +kernel, by decide +kernel, by decide +kernel, by decide,
    fun _ h => by cases h; rfl⟩

/-- R39: a code already pressed by the macro, one beyond the limit, one that fits, and a modifier. -/
theorem test_hyps_MacroSteps_codes :
    (withPlayer { playerOn 0 true [.pause 0] with pressed := [4] } up).player =
      some { playerOn 0 true [.pause 0] with pressed := [4] } ∧ (up.link 0).state = .active ∧
    4 ∈ [4] ∧ 5 ∉ [4] ∧ isModifier 4 = false ∧ isModifier 224 = true ∧
    4 ∉ (up.setCounts 0 ((List.range 12).map fun k => (k + 5, 1))).pressedSet 0 ∧
    12 ≤ (((up.setCounts 0 ((List.range 12).map fun k => (k + 5, 1))).pressedSet 0).filter
      fun j => !isModifier j).length ∧
    5 ∈ (up.setCounts 0 ((List.range 12).map fun k => (k + 5, 1))).pressedSet 0 ∧
    ((up.pressedSet 0).filter fun j => !isModifier j).length < 12 := by decide +kernel

theorem test_hyps_MacroEnd :
    (withPlayer (playerOn 0 true [.pause 0]) up).player = some (playerOn 0 true [.pause 0]) ∧
    (up.link 0).state = .active ∧ (up.link 3).state ≠ .active ∧ (up.link 0).queue = [] := by
  decide +kernel

/-- 1920 by 1080 is the configured size of H1; 7680 by 4320 is the largest size, 7681 by 1 beyond it. -/
theorem test_hyps_HeadSignalChange :
    none = nth up.display.heads 0 ∧ some (1920, 1080) ≠ nth up.display.heads 0 ∧
    ((1920, 1080) : Nat × Nat) = ((nth up.tables.heads 0).width, (nth up.tables.heads 0).height) ∧
    ((1920, 1081) : Nat × Nat) ≠ ((nth up.tables.heads 0).width, (nth up.tables.heads 0).height) ∧
    ¬(7680 < (7680, 4320).1 ∨ 4320 < (7680, 4320).2) ∧ 7680 < (7681, 1).1 := by decide +kernel

/-- M1 disabled, and M1 with a layout pending. -/
def disabled0 : State :=
  { up with tables := { up.tables with
      monitors := put up.tables.monitors 0 { factoryMonitor 0 with enabled := false } } }

def waiting0 (l : Layout) : State :=
  up.setMonitorRun 0 { up.monitorRun 0 with waiting := some (l, .setLayout) }

/-- P beside a pointer channel of its own, of another and of none, and captive with a park that takes the channel. -/
theorem test_hyps_HotPlugsAndDeskNotices_notice :
    up.ownerAt up.pointer.x up.pointer.y = some 0 ∧ up.pointer.channel = some 0 ∧
    (up.mapPoint 0 up.pointer.x up.pointer.y).isSome = true ∧ up.deliverable 0 = true ∧
    (up.setPointer { up.pointer with channel := some 3 }).pointer.channel ≠ some 0 ∧
    State.reset.pointer.parked = true ∧ State.reset.liveMonitors = [] ∧
    up.liveMonitors.head? = some 0 ∧ up.captive = false ∧ captive0.captive = true ∧
    captive0.pointer.channel ≠ none ∧ captive0.pointer.parked = false ∧
    (captive0.setMonitorRun 0 (factoryMonitorRun 0)).liveMonitors = [] := by decide +kernel

theorem test_hyps_HotPlugsAndDeskNotices :
    (up.monitorRun 0).connected = true ∧ (up.monitorRun 1).connected = !true ∧
    (nth disabled0.tables.monitors 0).enabled = false ∧
    (nth up.tables.monitors 0).enabled = true ∧ (nth up.tables.monitors 1).enabled = true ∧
    ((waiting0 (factoryPart 1)).monitorRun 0).waiting = some (factoryPart 1, .setLayout) ∧
    (waiting0 (factoryPart 1)).layoutOk 0 (factoryPart 1) = true ∧
    (up.monitorRun 0).waiting = none ∧ up.pointer.parked = false ∧
    State.reset.pointer.parked = true ∧ up.monitorAt up.pointer.x up.pointer.y ≠ none := by
  decide +kernel

/-- A layout that no monitor of 1920 by 1080 holds. -/
def tooWide : Layout := [⟨⟨0, 0, 1921, 1080⟩, none⟩]

theorem test_hyps_FramesAndPictures :
    up.live 1 = false ∧ up.live 0 = true ∧ (up.monitorRun 0).waiting = none ∧
    ((waiting0 (factoryPart 1)).monitorRun 0).waiting = some (factoryPart 1, .setLayout) ∧
    (waiting0 (factoryPart 1)).layoutOk 0 (factoryPart 1) = true ∧
    ((waiting0 tooWide).monitorRun 0).waiting = some (tooWide, .setLayout) ∧
    (waiting0 tooWide).layoutOk 0 tooWide = false := by decide +kernel

/-- H2 belongs to a sleeping channel, H1 to an ACTIVE one, H9 to none. -/
theorem test_hyps_FramesAndPictures_contents :
    (nth up.tables.heads 1).owner = some 1 ∧ (up.link 1).state = .suspended ∧
    (∀ c, (nth up.tables.heads 0).owner = some c →
      (up.link c).state = .detached ∨ (up.link c).state = .active) ∧
    (∀ c, (nth up.tables.heads 8).owner = some c →
      (up.link c).state = .detached ∨ (up.link c).state = .active) ∧
    (⟨3, 4, 5, 6⟩ : Rect).contains 3 4 = true ∧ (⟨3, 4, 5, 6⟩ : Rect).contains 7 9 = true ∧
    (∀ t ∈ [((⟨0, 0, 3, 9⟩ : Rect), Shown.blank), (⟨3, 4, 5, 6⟩, .asleep)],
      t.1.contains 3 4 = true → t = (⟨3, 4, 5, 6⟩, .asleep)) := by
  decide +kernel

/-- Preset 0 passes; with M1 smaller it does not. -/
def smallM1 : State :=
  { up with tables := { up.tables with
      monitors := put up.tables.monitors 0 { factoryMonitor 0 with width := 1919 } } }

theorem test_hyps_LayoutsPlaced :
    Accepted .recallPreset 0 (plain [0]) up ∧ Accepted .recallPreset 0 (plain [0]) smallM1 ∧
    Accepted .recallPreset 0 (plain [15]) up ∧
    Accepted .setLayout 0 (plain (1 :: layoutImage (factoryPart 1))) up ∧
    Accepted .setLayout 0 (plain (6 :: layoutImage tooWide)) up ∧
    layoutWellFormed (factoryPart 1) = true ∧ layoutWellFormed tooWide = true ∧
    up.layoutOk 0 (factoryPart 1) = true ∧ up.layoutOk 5 tooWide = false ∧
    nth (nth smallM1.tables.presets 0) 0 = some (factoryPart 0) ∧
    smallM1.layoutOk 0 (factoryPart 0) = false := by
  unfold Accepted; decide +kernel

/-- Preset 16, monitors 0 and 7, and bytes that are no layout's image. -/
theorem test_hyps_LayoutsPlaced_invalid :
    Accepted .recallPreset 0 (plain [16]) up ∧ 16 ≤ byteAt (plain [16]).payload 0 ∧
    Accepted .setLayout 0 (plain (0 :: layoutImage tooWide)) up ∧
    6 < byteAt (plain (7 :: layoutImage tooWide)).payload 0 ∧
    Accepted .setLayout 0 (plain (1 :: List.replicate 69 0)) up ∧ up.live 1 = false ∧
    ∀ l, layoutWellFormed l = true → layoutImage l ≠ List.replicate 69 0 := by
  refine ⟨by unfold Accepted; decide +kernel, by decide, by unfold Accepted; decide +kernel,
    by decide, by unfold Accepted; decide +kernel, by decide +kernel, fun l hl h => ?_⟩
  have hn : inRange 1 4 l.length = true := by
    simp only [layoutWellFormed, Bool.and_eq_true] at hl
    exact hl.1.1
  have h0 : byteOf l.length = 0 := by
    have := congrArg (·.head?) h
    simpa [layoutImage, padTo] using this
  have := congrArg BitVec.toNat h0
  simp [byteOf, inRange] at this hn
  omega

theorem test_hyps_LayoutsPlaced_preset :
    (∀ m l, nth (nth up.tables.presets 0) m = some l → up.layoutOk m l = true) ∧
    (∀ m l, nth (nth up.tables.presets 15) m = some l → up.layoutOk m l = true) := by
  have h : ∀ p ∈ [(0 : Fin 16), 15], ∀ m, (match nth (nth up.tables.presets p) m with
      | none => true
      | some l => up.layoutOk m l) = true := by decide +kernel
  constructor
  · intro m l hl
    have := h 0 (by simp) m
    rwa [hl] at this
  · intro m l hl
    have := h 15 (by simp) m
    rwa [hl] at this

/-- `up` with a command waiting. -/
def upQueued : State := { up with pending := [.sleepPulse] }

theorem policyOnce_upQueued : PolicyOnce upQueued :=
  ⟨fun _ => rfl, fun h => absurd h (by decide)⟩

theorem test_hyps_LayoutsPassKept :
    (LayoutsPass upQueued ∧ PolicyOnce upQueued) ∧ ∃ t, step upQueued = .next t :=
  ⟨⟨by unfold LayoutsPass; decide +kernel, policyOnce_upQueued⟩, _, rfl⟩

theorem test_hyps_BallisticsLaw :
    factoryBallistics.InRange ∧ (⟨16, 0, 1024, 16⟩ : Ballistics).InRange ∧
    (⟨2048, 255, 0, 4096⟩ : Ballistics).InRange ∧ (2047 : Int).natAbs ≤ 2047 ∧
    (-2047 : Int).natAbs ≤ 2047 ∧ (-255 : Int).natAbs ≤ 255 ∧
    speedOf 8 0 ≤ factoryBallistics.vb ∧ factoryBallistics.vb < speedOf 9 0 := by
  unfold Ballistics.InRange; decide

/-- The ends of the smallest and the widest desktop; the pointer of `up` on H1 of channel 1, on its BLANK tile and beside its
tile in two other layouts; H1 of a RELATIVE channel; and no live monitor. -/
theorem test_hyps_OwnerAndMapping :
    2 ≤ 2 ∧ 1 < 2 ∧ 2 ≤ 16384 ∧ 16383 < 16384 ∧ up.live 0 = true ∧
    (up.monitorRect 0).contains 960 540 = true ∧
    (∀ k, up.live k = true → (up.monitorRect k).contains 960 540 = true → k = 0) ∧
    (∀ t ∈ (up.monitorRun 0).active, t.rect.contains 960 540 = true ∧
      (∀ u ∈ (up.monitorRun 0).active, u.rect.contains 960 540 = true → u = t) ∧
      t.content = some ⟨0, ⟨0, 0, 1920, 1080⟩⟩) ∧ (up.monitorRun 0).active.length = 1 ∧
    (nth up.tables.heads 0).owner = some 0 ∧ (captive0.chanRec 0).pointerMode = .relative ∧
    (⟨0, 0, 1920, 1080⟩ : Rect).contains 1919 1079 = true ∧
    (∀ t ∈ ([⟨⟨0, 0, 960, 540⟩, none⟩] : Layout), t.rect.contains 960 540 = false ∧
      t.content = none ∧ t.rect.contains 959 539 = true) ∧
    (∀ k, State.reset.live k = true → (State.reset.monitorRect k).contains 0 0 = false) := by
  decide +kernel

theorem deskInvariant_upQueued : DeskInvariant upQueued := by
  refine ⟨by unfold PointerOnDesk; decide +kernel, by unfold MonitorRec.InRange; decide +kernel,
    ⟨by decide +kernel, ?_, ?_⟩, by unfold LayoutsFit; decide +kernel⟩
  · intro m w hw
    have h : ∀ m, (upQueued.monitorRun m).waiting = none := by decide +kernel
    rw [h m] at hw
    cases hw
  · intro p m l hl
    have h : ∀ p m, (match nth (nth upQueued.tables.presets p) m with
        | none => true
        | some l => layoutWellFormed l) = true := by decide +kernel
    have := h p m
    rwa [hl] at this

theorem test_hyps_PointerStaysOnDesk : DeskInvariant upQueued ∧ ∃ t, step upQueued = .next t :=
  ⟨deskInvariant_upQueued, _, rfl⟩

/-- A report of 20 to the right, one of three bytes, and one of wheel only; the pointer lies on H1 of channel 1. -/
theorem test_hyps_PointerMotion :
    up.console.ptr = ⟨.active, noButtons⟩ ∧ reportButtons [0, 20, 0, 0, 0] = noButtons ∧
    reportButtons [0, 20, 0] = noButtons ∧ reportButtons [0, 0, 0, 0, 0, 1] = noButtons ∧
    up.captive = false ∧ up.pointer.parked = false ∧ State.reset.pointer.parked = true ∧
    up.ownerAt 962 540 = some 0 ∧ up.pointer.channel = some 0 ∧
    (up.mapPoint 0 962 540).isSome = true ∧ up.deliverable 0 = true ∧
    (up.setPointer { up.pointer with channel := some 3 }).pointer.channel ≠ some 0 ∧
    up.deliverable 1 = false ∧
    ({ up with tables := { up.tables with
      heads := put up.tables.heads 0 { factoryHead 0 with owner := none } } } : State).ownerAt 962 540 = none ∧
    captive0.focus.channel = some 0 ∧ (captive0.chanRec 0).pointerMode = .relative := by
  decide +kernel

/-- A point on M1, and points beyond each of its sides with M1 alone live. -/
theorem test_hyps_PointerResolution :
    up.live 0 = true ∧ up.monitorAt up.pointer.x up.pointer.y = some 0 ∧
    (∀ q ∈ [((-1 : Int), (0 : Int)), (1920, 0), (0, -1), (0, 1080), (1920, 1080)],
      ∀ k, up.live k = true → ¬(((up.monitorRect k).x : Int) ≤ q.1 ∧
        q.1 < (up.monitorRect k).x + (up.monitorRect k).w ∧ ((up.monitorRect k).y : Int) ≤ q.2 ∧
        q.2 < (up.monitorRect k).y + (up.monitorRect k).h)) := by decide +kernel

/-- A state with a button held on a target. -/
def withButton (t : Option ButtonTarget) (s : State) : State :=
  { s with
    console := { s.console with ptr := ⟨.active, put noButtons 0 true⟩ }
    pointer := { s.pointer with buttons := put s.pointer.buttons 0 t } }

/-- No drag, a drag of the owner of the point, a drag of another channel from H1, and one from no tile. -/
theorem test_hyps_PointerResolution_drag :
    up.dragChannel = none ∧ (withButton (some (.channel 0 .delivered)) up).dragChannel = some 0 ∧
    up.ownerAt 960 540 = some 0 ∧
    (withButton (some (.channel 1 .queued)) up).dragChannel = some 1 ∧
    (up.tileUnder 960 540).isSome = true ∧
    (∀ r ∈ (up.tileUnder 960 540), 1 ≤ r.2.rect.w ∧ 1 ≤ r.2.rect.h) ∧
    State.reset.tileUnder 0 0 = none ∧ State.reset.ownerAt 0 0 ≠ some 0 := by decide +kernel

/-- A parked part with a device on PTR. -/
def parkedUp : State := { State.reset with links := links4, console := up.console }

/-- A still pointer on H1, which belongs to a given channel. -/
def still (c : Chan) : State :=
  { up with
    tables := { up.tables with
      heads := put up.tables.heads 0 { factoryHead 0 with owner := some c } }
    pointer := { up.pointer with
      channel := some c, lastAbs := Vector.replicate 8 (some (16392, 16399)) } }

/-- Channels 1, 4, 2, 3 and 5 stand for the rows of R12, with a full queue, a player and a channel that input does not wake
beside them; and a parked pointer. -/
def stillStates : List State :=
  [still 0, still 1, still 2, still 3, still 4, withLink 3 (fullLink .waking true) (still 3),
    withLink 1 (fullLink .suspended true) (still 1),
    withPlayer (playerOn 0 true [.pause 0]) (still 0),
    withRec 1 { factoryChannel with wakeOnInput := false } (still 1), parkedUp,
    withButton (some (.channel 0 .delivered)) (still 0),
    withButton (some (.channel 1 .delivered)) (still 1), withButton none parkedUp,
    withButton (some (.channel 3 .queued)) parkedUp]

theorem test_hyps_PointerButtons_still : ∀ s ∈ stillStates, PointerStill s := by
  unfold PointerStill; decide +kernel

theorem test_hyps_PointerButtons_presses :
    (16 : Byte) = BitVec.twoPow 8 (4 : Button).val ∧ parkedUp.pointer.channel = none ∧
    parkedUp.captive = false ∧ parkedUp.console.ptr = ⟨.active, noButtons⟩ ∧
    (∀ c, (still c).console.ptr = ⟨.active, noButtons⟩ ∧ (still c).captive = false ∧
      (still c).pointer.channel = some c ∧ (still c).focus.dwell.map (·.candidate) ≠ some c) ∧
    ((still 0).link 0).state = .active ∧ ((still 0).link 0).queue = [] ∧
    (still 0).serves 0 = false ∧ ((still 3).link 3).state = .waking ∧
    2 + ((still 3).link 3).queue.length + ((still 3).link 3).reserved ≤ 32 ∧
    32 < 2 + (fullLink .waking true).queue.length + (fullLink .waking true).reserved ∧
    ((still 1).link 1).state = .suspended ∧ ((still 1).chanRec 1).wakeOnInput = true ∧
    ((still 1).link 1).permission = true ∧ ((still 2).link 2).permission = false ∧
    ((still 4).link 4).state = .detached ∧ captive0.captive = true ∧
    captive0.console.ptr.last = noButtons ∧ captive0.focus.channel = some 0 ∧
    nth (captive0.held 0) 0 = false := by decide +kernel

theorem test_hyps_PointerButtons_dwell :
    ∃ d u, (still 0).setFocus { up.focus with channel := some 1, dwell := some ⟨0, 150⟩ } = d ∧
      d.pointer.channel = some 0 ∧ d.focus.dwell = some ⟨0, 150⟩ ∧ PointerStill d ∧
      d.captive = false ∧ exec .dwellExpiry d = .next u :=
  ⟨_, _, rfl, by decide +kernel, by decide +kernel, by unfold PointerStill; decide +kernel,
    by decide +kernel, rfl⟩

/-- A button of each target up, in absolute and in captive form. -/
theorem test_hyps_PointerButtons_releases :
    (∀ t ∈ [none, some ButtonTarget.consumed, some (.channel 3 .queued), some (.channel 0 .delivered)],
      (withButton t (still 0)).console.ptr = ⟨.active, put noButtons 0 true⟩ ∧
      nth (withButton t (still 0)).pointer.buttons 0 = t ∧
      (withButton t captive0).captive = true) ∧
    nth ((withButton (some (.channel 0 .delivered))
      (up.setHeld 0 (put noButtons 0 true))).held 0) 0 = true ∧
    (still 0).deliverable 0 = true ∧ (still 1).deliverable 1 = false := by decide +kernel

/-- Button 1 up, button 2 down, 2 to the right, in one report of absolute form, of captive form and while parked. -/
theorem test_hyps_PointerSamples :
    (∀ s ∈ [withButton (some (.channel 0 .delivered)) up, withButton (some .consumed) captive0,
        withButton none parkedUp], s.console.ptr.state = .active ∧
      sampleOf s.console.ptr.last [2, 2, 0, 0, 0] = ⟨2, 0, 0, 0, [0], [1]⟩) ∧
    up.captive = false ∧ up.pointer.parked = false ∧ parkedUp.captive = false ∧
    parkedUp.pointer.parked = true ∧ (movePointer 2 0 up).ownerOfPointer = some 0 ∧
    ((movePointer 2 0 up).mapPoint 0 962 540).isSome = true ∧ (movePointer 2 0 up).pointer.x = 962 ∧
    captive0.focus.channel = some 0 ∧ (captive0.chanRec 0).pointerMode = .relative := by
  decide +kernel

/-- What one release and one press meet: each target, each link state, room and none, a dwell toward the channel and none. -/
theorem test_hyps_PointerSamples_buttons :
    (∀ t ∈ [none, some ButtonTarget.consumed, some (.channel 3 .queued), some (.channel 0 .delivered),
      some (.channel 1 .delivered)], nth (withButton t up).pointer.buttons 0 = t) ∧
    up.deliverable 0 = true ∧ up.deliverable 1 = false ∧ (∀ d, up.focus.dwell = some d → d.candidate ≠ 0) ∧
    dwelling.focus.dwell = some ⟨1, 150⟩ ∧ (up.link 3).state = .waking ∧
    (withPlayer (playerOn 0 true [.pause 0]) up).deliverable 0 = false ∧
    2 + (up.link 3).queue.length + (up.link 3).reserved ≤ 32 ∧
    ¬2 + (fullLink .waking true).queue.length + (fullLink .waking true).reserved ≤ 32 ∧
    (up.link 1).state = .suspended ∧ (up.chanRec 1).wakeOnInput = true ∧
    (up.link 1).permission = true ∧ (up.link 2).permission = false ∧
    (up.link 4).state = .detached := by
  refine ⟨by decide +kernel, by decide +kernel, by decide +kernel, fun d h => ?_, by decide +kernel⟩
  cases h

theorem test_hyps_PointerPortAttachDetach :
    up.console.ptr.state ≠ .absent ∧ State.reset.console.ptr.state = .absent ∧
    ({ up with console := { up.console with ptr := ⟨.rejected, noButtons⟩ } } : State).console.ptr.state
      = .rejected ∧ PointerOnDesk up ∧ up.pointer.channel = up.ownerOfPointer ∧
    (∀ b, nth up.pointer.buttons b ≠ none → nth up.console.ptr.last b = true) := by
  unfold PointerOnDesk; decide +kernel

theorem test_hyps_DwellAndGlide :
    up.focus.dwell = none ∧ dwelling.focus.dwell = some ⟨1, 150⟩ ∧
    judgeFocus .glide 1 up = .changed ∧ judgeFocus .glide 1 otherGroup = .refusedPolicy ∧
    judgeFocus .glide 4 up ≠ .changed ∧ judgeFocus .glide 4 up ≠ .refusedPolicy ∧
    up.focus.channel = some 0 ∧ up.focus.channel ≠ some 1 ∧ up.focus.glideEnabled = true ∧
    up.focus.pinned = false ∧ up.captive = false ∧ (up.chanRec 1).pointerMode = .absolute ∧
    (up.link 1).state ≠ .detached ∧ up.tables.desk.dwell ≠ 0 ∧
    ({ up with tables := { up.tables with desk := { factoryDesk with dwell := 0 } } }
      : State).tables.desk.dwell = 0 := by decide +kernel

/-! ### Management -/

/-- A save in progress, for channel 1 and writing a given table. -/
def saving (t : Table) : State :=
  { up with mgmt := { up.mgmt with
      save := some ⟨0, 9, factoryTables, t⟩
      slots := put up.mgmt.slots 0 (some ⟨9, .working, 0, false, [], some .save⟩) } }

/-- The AUTHORITY table locked, and the policy written. -/
def lockedUp : State :=
  { up with mgmt := { up.mgmt with locks := put up.mgmt.locks 1 true, policyWritten := true } }

/-- Each check of R162 failing: level 4, table 0 and 11, a floor, a save, a confirmation, a lock, a frame; and an AUTHORITY
write and a SET_POLICY that pass. -/
theorem test_hyps_RefusedRequests :
    (up.link 1).state ≠ .active ∧ (up.link 0).state = .active ∧
    firstFailure .identify 0 ⟨7, 4, 0, 0, 0, []⟩ up = some .invalid ∧
    firstFailure .readTable 0 (tableFrame 0 1 1 []) up = some .invalid ∧
    firstFailure .readTable 0 (tableFrame 11 1 1 []) up = some .invalid ∧
    firstFailure .deskRestart 1 (plain []) (withLink 1 (linkIn .active) up) = some .denied ∧
    firstFailure .lockTable 0 (tableFrame 1 0 0 []) (saving .desk) = some .busy ∧
    firstFailure .setPolicy 0 (plain []) (withConfirm pendingPolicy up) = some .busy ∧
    firstFailure .writeTable 0 (tableFrame 2 1 1 [0]) lockedUp = some .locked ∧
    firstFailure .setPolicy 0 (plain []) lockedUp = some .locked ∧
    firstFailure .select 0 (plain []) up = none ∧ frameOk .select (plain []) = false ∧
    Command.select.confirmKind (plain []) = none := by decide +kernel

/-- A report of seven bytes, one of a wrong length, and command bytes 0, 16 and 17. -/
theorem test_hyps_RefusedRequests_reports :
    ([1, 1, 0, 0, 0, 0, 0] : List Byte).length < 8 ∧
    ([1, 1, 0, 0, 0, 0, 1, 0] : List Byte).length ≠ 8 + (1 + 256 * 0) ∧
    ([1, 0, 0, 0, 0, 0, 0, 0] : List Byte).length = 8 + (0 + 256 * 0) ∧
    (([1, 0, 0, 0, 0, 0, 0, 0] : List Byte).getD 1 0).toNat = 0 ∧
    16 < (([1, 17, 0, 0, 0, 0, 0, 0] : List Byte).getD 1 0).toNat ∧
    commandOf? 1 = some .identify ∧ commandOf? 16 = some .deskRestart ∧
    (plain []).payload.length ≤ 65535 := by decide

theorem test_hyps_RequestChecksInOrder :
    3 < (⟨7, 4, 0, 0, 0, []⟩ : Frame).level.toNat ∧ (tableFrame 11 0 0 []).tableId.toNat = 11 ∧
    (⟨7, 3, 10, 0, 0, []⟩ : Frame).level.toNat ≤ 3 ∧
    max (⟨7, 3, 10, 0, 0, []⟩ : Frame).level.toNat (nth up.tables.authority 0).val = 3 ∧
    max (plain []).level.toNat (nth up.tables.authority 0).val ≤ 0 ∧
    max (plain []).level.toNat (nth up.tables.authority 1).val = 3 ∧
    (saving .channels).mgmt.save ≠ none ∧ up.mgmt.save = none ∧
    (withConfirm pendingPolicy up).mgmt.confirm ≠ none ∧ up.mgmt.confirm = none ∧
    lockedUp.locked .authority = true ∧ lockedUp.mgmt.policyWritten = true ∧
    up.locked .authority = false ∧ up.mgmt.policyWritten = false := by decide +kernel

/-- READ_TABLE of the last hotkey, of no record, below and beyond the range, and of 480 bytes and more. -/
theorem test_hyps_ReadRequests :
    Accepted .identify 1 (plain []) (withLink 1 (linkIn .active) up) ∧
    Accepted .readTable 0 (tableFrame 6 31 1 []) up ∧
    1 ≤ (tableFrame 6 31 1 []).count.toNat ∧
    firstIndex .hotkeys ≤ (tableFrame 6 31 1 []).first.toNat ∧
    31 + 1 ≤ firstIndex .hotkeys + recordCount .hotkeys ∧ 1 * recordBytes .hotkeys ≤ 480 ∧
    Accepted .readTable 0 (tableFrame 6 0 0 []) up ∧
    Accepted .readTable 0 (tableFrame 3 0 1 []) up ∧ 0 < firstIndex .heads ∧
    Accepted .readTable 0 (tableFrame 6 31 2 []) up ∧
    firstIndex .hotkeys + recordCount .hotkeys < 31 + 2 ∧
    Accepted .readTable 0 (tableFrame 5 0 2 []) up ∧ 480 < 2 * recordBytes .presets ∧
    Accepted .signTable 0 (tableFrame 10 0 0 []) up ∧
    Accepted .lockTable 0 (tableFrame 1 0 0 []) up ∧ Accepted .readState 0 (plain []) up ∧
    nth (put up.mgmt.signatures 9 (some 1)) 9 = some 1 ∧
    nth (put up.mgmt.signatures 9 none) 9 = none := by
  unfold Accepted; decide +kernel

theorem test_hyps_ReadRequests_player :
    up.player = none ∧ (playingOn0 true).player = some (playerOn 0 true [.pause 0]) ∧
    [4, 224].filter (fun k => !isModifier k) = [4] ∧ up.mgmt.confirm = none ∧
    (withConfirm pendingPolicy up).mgmt.confirm = some pendingPolicy ∧
    Accepted .readState 0 (plain []) (withConfirm pendingPolicy up) ∧
    Accepted .readState 0 (plain [])
      (withPlayer { playerOn 0 true [.tap 4] with tapHalf := some 4, pressed := [4, 224] } up) := by
  unfold Accepted; decide +kernel

/-- Values of BALLISTICS outside their ranges, and records at the ends of theirs. -/
def wildBallistics : Ballistics := ⟨65535, 255, 65535, 0⟩

/-- A macro and a DESK record with settings outside their ranges. -/
def wildMacro : MacroRec := ⟨255, [.pause 65535, .tap 4]⟩

def wildDesk : Desk :=
  { factoryDesk with tapWindow := 65535, armWindow := 0, dwell := 1001, confirmWindow := 255, cueVolume := 4 }

theorem test_hyps_RecordWrites :
    Accepted .writeTable 0 (tableFrame 5 15 1 (presetImage (factoryPreset 0))) up ∧
    Accepted .writeTable 0 (tableFrame 6 31 1 (hotkeyImage (factoryAttention 164 .pin))) up ∧
    Accepted .writeTable 0 (tableFrame 7 4 1 (keymapImage [(4, some 164), (224, none)])) up ∧
    Accepted .writeTable 0 (tableFrame 8 8 1 (macroImage ⟨50, [.tap 231, .pause 2000]⟩)) up ∧
    Accepted .writeTable 0 (tableFrame 9 0 1 (ballisticsImage wildBallistics)) up ∧
    Accepted .writeTable 0 (tableFrame 10 0 1 (deskImage factoryDesk)) up ∧
    (tableFrame 5 15 1 []).count = 1 ∧ (tableFrame 8 8 1 []).first = byteOf ((7 : Fin 8).val + 1) ∧
    factoryDesk.alertChannel = up.tables.desk.alertChannel := by
  unfold Accepted; decide +kernel

theorem test_hyps_RecordWrites_clamped :
    Accepted .writeTable 0 (tableFrame 8 1 1 (macroImage wildMacro)) up ∧
    Accepted .writeTable 0 (tableFrame 10 0 1 (deskImage wildDesk)) up ∧
    (⟨50, [.pause 2000, .tap 4]⟩ : MacroRec).InRange ∧
    ({ wildDesk with tapWindow := 1000, armWindow := 500, dwell := 1000, confirmWindow := 30, cueVolume := 3 }
      : Desk).InRange ∧ wildDesk.alertChannel = up.tables.desk.alertChannel := by
  refine ⟨by unfold Accepted; decide +kernel, by unfold Accepted; decide +kernel, ?_,
    by unfold Desk.InRange; decide, rfl⟩
  simp [MacroRec.InRange, MacroStep.InRange, isKeyCode, isOrdinary, isModifier]

/-- A write that makes channel 1 or channel 5 the alert channel, with DESK_START latched and in the alert set or not. -/
def alertDesk (c : Chan) (alerts : EventSet) : Desk := { factoryDesk with alertChannel := some c, alertSet := alerts }

def latched : State := { up with mgmt := { up.mgmt with latch := eventSet [.deskStart, .linkUp] } }

theorem test_hyps_RecordWrites_alert :
    Accepted .writeTable 0 (tableFrame 10 0 1 (deskImage (alertDesk 0 (eventSet [.linkUp])))) latched ∧
    Accepted .writeTable 0 (tableFrame 10 0 1 (deskImage (alertDesk 4 (eventSet [.linkUp])))) latched ∧
    (alertDesk 0 (eventSet [.linkUp])).InRange ∧ (alertDesk 4 0).InRange ∧
    some 0 ≠ latched.tables.desk.alertChannel ∧ (latched.link 0).state = .active ∧
    (latched.link 4).state ≠ .active ∧ hasEvent latched.mgmt.latch .linkUp = true ∧
    hasEvent (eventSet [.linkUp]) .linkUp = true ∧
    (∀ g ∈ allEvents, eventNumber g < eventNumber .linkUp →
      hasEvent latched.mgmt.latch g = false ∨ hasEvent (eventSet [.linkUp]) g = false) ∧
    (∀ g ∈ allEvents, hasEvent latched.mgmt.latch g = false ∨ hasEvent (0 : EventSet) g = false) := by
  unfold Accepted Desk.InRange; decide +kernel

theorem test_hyps_RecordWrites_ranges :
    (factoryPreset 0).InRange ∧ (factoryAttention 164 .pin).InRange ∧
    Keymap.InRange [(4, some 164), (224, none)] ∧
    (⟨50, [.tap 231, .pause 2000]⟩ : MacroRec).InRange ∧ factoryDesk.InRange ∧
    wildBallistics.g0 < 65536 ∧ wildBallistics.gmax < 65536 := by
  refine ⟨?_, by unfold HotkeyEntry.InRange; decide, ?_, ?_, by unfold Desk.InRange; decide, by decide,
    by decide⟩
  · intro m l hl
    have h : ∀ m, (match nth (factoryPreset 0) m with
        | none => true
        | some l => layoutWellFormed l) = true := by decide +kernel
    have := h m
    rwa [hl] at this
  · simp [Keymap.InRange, isKeyCode, isOrdinary, isModifier]
  · simp [MacroRec.InRange, MacroStep.InRange, isKeyCode, isOrdinary, isModifier]

/-- H1 made too wide for its desktop and for preset 0, and moved in its desktop; M1 put over M2 and made smaller; channel 1
made too narrow. -/
def wideHead : HeadRec := ⟨some 0, 1921, 1080, 0, 0⟩

def smallHead : HeadRec := ⟨some 0, 1919, 1080, 0, 0⟩

def sameHead : HeadRec := ⟨none, 1920, 1080, 16383, 0⟩

theorem test_hyps_WritesAgainstLayoutsInUse_heads :
    Accepted .writeTable 0 (tableFrame 3 1 1 (headImage wideHead)) up ∧
    Accepted .writeTable 0 (tableFrame 3 1 1 (headImage smallHead)) up ∧
    Accepted .writeTable 0 (tableFrame 3 1 1 (headImage sameHead)) up ∧
    wideHead.InRange ∧ smallHead.InRange ∧ sameHead.InRange ∧ (up.chanRec 0).width < 0 + 1921 ∧
    up.breaksInUse { up.tables with heads := put up.tables.heads 0 smallHead } = true ∧
    up.breaksInUse { up.tables with heads := put up.tables.heads 0 sameHead } = false ∧
    sameHead.owner = none := by
  unfold Accepted HeadRec.InRange; decide +kernel

theorem test_hyps_WritesAgainstLayoutsInUse_others :
    Accepted .writeTable 0 (tableFrame 4 1 1 (monitorImage { factoryMonitor 0 with x := 1919 })) up ∧
    ({ factoryMonitor 0 with x := 1919 } : MonitorRec).InRange ∧
    (nth up.tables.monitors 1).enabled = true ∧
    ({ factoryMonitor 0 with x := 1919 } : MonitorRec).rect.meets (nth up.tables.monitors 1).rect = true ∧
    ({ factoryMonitor 0 with width := 1919 } : MonitorRec).InRange ∧
    up.breaksInUse { up.tables with
      monitors := put up.tables.monitors 0 { factoryMonitor 0 with width := 1919 } } = true ∧
    Accepted .writeTable 0 (tableFrame 1 1 1 (channelImage { factoryChannel with width := 1919 })) up ∧
    ({ factoryChannel with width := 1919 } : ChannelRec).InRange ∧
    (nth up.tables.heads 0).owner = some 0 ∧ 1919 < (nth up.tables.heads 0).ox + (nth up.tables.heads 0).width := by
  unfold Accepted MonitorRec.InRange ChannelRec.InRange; decide +kernel

/-- H9, which no layout shows, LOCKED at its old size and made smaller, locked at its new size, without a signal, and only
moved. -/
def smallH9 : HeadRec := ⟨none, 1280, 720, 0, 0⟩

def lockedH9 : State :=
  { up with display := { up.display with heads := put up.display.heads 8 (some (1920, 1080)) } }

theorem test_hyps_WritesAgainstLayoutsInUse_mismatch :
    Accepted .writeTable 0 (tableFrame 3 9 1 (headImage smallH9)) lockedH9 ∧ smallH9.InRange ∧
    lockedH9.breaksInUse { lockedH9.tables with heads := put lockedH9.tables.heads 8 smallH9 } = false ∧
    nth lockedH9.display.heads 8 = some (1920, 1080) ∧
    ((1920, 1080) : Nat × Nat) ≠ (smallH9.width, smallH9.height) ∧
    (nth lockedH9.tables.heads 8).width ≠ smallH9.width ∧ nth up.display.heads 8 = none ∧
    sameHead.width = (nth up.tables.heads 0).width ∧ sameHead.height = (nth up.tables.heads 0).height := by
  unfold Accepted HeadRec.InRange; decide +kernel

/-- M1 live, M2 without a sink, M1 disabled: a write that moves, retimes, starts and stops a monitor. -/
theorem test_hyps_WritesAgainstLayoutsInUse_liveness :
    up.live 0 = true ∧ up.live 1 = false ∧ disabled0.live 0 = false ∧
    (disabled0.withTables up.tables).live 0 = true ∧ (up.withTables disabled0.tables).live 0 = false ∧
    (up.monitorRun 0).waiting = none ∧
    ((waiting0 (factoryPart 1)).monitorRun 0).waiting = some (factoryPart 1, .setLayout) ∧
    (∀ r ∈ [{ factoryMonitor 0 with y := 1 }, { factoryMonitor 0 with refresh := 144 },
        { factoryMonitor 0 with enabled := false }],
      r.InRange ∧ Accepted .writeTable 0 (tableFrame 4 1 1 (monitorImage r)) up ∧
      up.breaksInUse { up.tables with monitors := put up.tables.monitors 0 r } = false ∧
      ∀ k, k ≠ 0 → r.enabled = true → (nth up.tables.monitors k).enabled = true →
        r.rect.meets (nth up.tables.monitors k).rect = false) ∧
    Accepted .writeTable 0 (tableFrame 4 1 1 (monitorImage (factoryMonitor 0))) disabled0 ∧
    disabled0.breaksInUse up.tables = false := by
  unfold Accepted MonitorRec.InRange; decide +kernel

/-- Captive begun and ended by a write of channel 1, and left by a write of channel 3. -/
theorem test_hyps_WritesAgainstLayoutsInUse_captive :
    up.captive = false ∧ (up.withTables captive0.tables).captive = true ∧ captive0.captive = true ∧
    (captive0.withTables up.tables).captive = false ∧
    Accepted .writeTable 0
      (tableFrame 1 1 1 (channelImage { factoryChannel with pointerMode := .relative })) up ∧
    Accepted .writeTable 0 (tableFrame 1 1 1 (channelImage factoryChannel)) captive0 ∧
    Accepted .writeTable 0 (tableFrame 1 3 1 (channelImage { factoryChannel with width := 3840 })) up ∧
    up.breaksInUse captive0.tables = false ∧ captive0.breaksInUse up.tables = false ∧
    ({ factoryChannel with width := 3840 } : ChannelRec).InRange := by
  unfold Accepted ChannelRec.InRange; decide +kernel

/-- A refresh of 255, and wake tries of 0 with a wake window of 65535: each passes, clamped. -/
theorem test_hyps_WritesAgainstLayoutsInUse_clamped :
    Accepted .writeTable 0 (tableFrame 4 1 1 (monitorImage { factoryMonitor 0 with refresh := 255 })) up ∧
    ({ factoryMonitor 0 with refresh := 144 } : MonitorRec).InRange ∧
    (∀ k, k ≠ 0 → (nth up.tables.monitors k).enabled = true →
      ({ factoryMonitor 0 with refresh := 144 } : MonitorRec).rect.meets (nth up.tables.monitors k).rect
        = false) ∧
    up.breaksInUse { up.tables with
      monitors := put up.tables.monitors 0 { factoryMonitor 0 with refresh := 144 } } = false ∧
    Accepted .writeTable 0
      (tableFrame 1 1 1 (channelImage { factoryChannel with wakeTries := 0, wakeWindow := 65535 })) up ∧
    ({ factoryChannel with wakeTries := 1, wakeWindow := 2000 } : ChannelRec).InRange ∧
    (∀ h, (nth up.tables.heads h).owner = some 0 →
      (nth up.tables.heads h).ox + (nth up.tables.heads h).width ≤ factoryChannel.width ∧
      (nth up.tables.heads h).oy + (nth up.tables.heads h).height ≤ factoryChannel.height) ∧
    up.breaksInUse { up.tables with
      channels := put up.tables.channels 0 { factoryChannel with wakeTries := 1, wakeWindow := 2000 } }
      = false := by
  unfold Accepted MonitorRec.InRange ChannelRec.InRange; decide +kernel

/-- Two hotkeys whose second has the trigger 3; a macro clamped beside one that is not; a range past its end, below its start and
of no record, and a payload of another length. -/
def twoHotkeys (trigger : Code) : Frame :=
  tableFrame 6 30 2 (hotkeyImage (factoryAttention 100 .pin) ++ hotkeyImage (factoryAttention trigger .pin))

theorem test_write_of_two_refused :
    ∃ t, exec (.writeTable 0 (twoHotkeys 3)) up = .next t ∧ t.tables.hotkeys = up.tables.hotkeys ∧
      ∀ r ∈ nth t.mgmt.slots 0, r.status = .invalid ∧ r.payload = [31] := ⟨_, rfl, by decide +kernel⟩

theorem test_hyps_TableWrites :
    (up.link 0).state = .active ∧
    (∀ f ∈ [twoHotkeys 3, twoHotkeys 4, tableFrame 6 31 2 [], tableFrame 3 0 1 [], tableFrame 6 0 0 [],
        tableFrame 5 0 2 (presetImage (factoryPreset 0) ++ presetImage (factoryPreset 1))],
      firstFailure .writeTable 0 f up = none) ∧
    firstIndex .hotkeys + recordCount .hotkeys < 31 + 2 ∧ 0 < firstIndex .heads ∧
    ([] : List Byte).length ≠ 1 * recordBytes .heads ∧ 480 < 2 * recordBytes .presets ∧
    (twoHotkeys 3).payload.length = 2 * recordBytes .hotkeys ∧ 30 + 2 ≤ recordCount .hotkeys ∧
    (readRecord .hotkeys 30 (hotkeyImage (factoryAttention 100 .pin)) up.tables).isSome = true ∧
    readRecord .hotkeys 31 (hotkeyImage (factoryAttention 3 .pin)) up.tables = none ∧
    (readRecord .macros 0 (macroImage wildMacro) up.tables).map (·.2) = some true ∧
    (readRecord .macros 1 (macroImage ⟨8, [.tap 4]⟩) up.tables).map (·.2) = some false := by
  decide +kernel

/-- H1 too wide for its desktop, M1 over M2, H1 too small for the layout in use and M1 too small for it. -/
theorem test_hyps_TableWrites_faults :
    recordMisfits .heads { up.tables with heads := put up.tables.heads 0 wideHead } 0 ∧
    recordMisfits .monitors { up.tables with
      monitors := put up.tables.monitors 0 { factoryMonitor 0 with x := 1919 } } 0 ∧
    recordMisfits .channels { up.tables with
      channels := put up.tables.channels 0 { factoryChannel with width := 1919 } } 0 ∧
    up.recordBreaks .heads { up.tables with heads := put up.tables.heads 0 smallHead } 0 ∧
    up.recordBreaks .monitors smallM1.tables 0 ∧ up.breaksInUse smallM1.tables = true ∧
    up.breaksInUse up.tables = false := by
  refine ⟨⟨0, rfl, by decide +kernel⟩, ⟨0, rfl, by decide +kernel⟩, ⟨0, rfl, by decide +kernel⟩,
    ⟨0, rfl, 0, _, Or.inl rfl, _, List.mem_singleton.2 rfl, _, rfl, rfl, Or.inl (by decide +kernel)⟩,
    ⟨0, rfl, _, Or.inl rfl, by decide +kernel⟩, by decide +kernel⟩

theorem test_hyps_LockedContentsKept :
    PolicyOnce upQueued ∧ (∀ d rest, upQueued.pending ≠ .powerOnReset d :: rest) ∧
    ∃ t, step upQueued = .next t := by
  refine ⟨policyOnce_upQueued, fun d rest h => ?_, _, rfl⟩
  cases h

theorem test_hyps_StoreSaveAndLoad :
    Accepted .saveStore 0 (plain []) up ∧ up.mgmt.save = none ∧
    (saving .heads).mgmt.save = some ⟨0, 9, factoryTables, .heads⟩ ∧
    (tableIndex .monitors).val = (tableIndex .heads).val + 1 ∧
    (saving .desk).mgmt.save = some ⟨0, 9, factoryTables, .desk⟩ ∧
    nth (saving .desk).mgmt.slots 0 = some ⟨9, .working, 0, false, [], some .save⟩ ∧
    nth blankStore.store (tableIndex .desk) = none ∧
    signature [0x00] ≠ 0 := by
  unfold Accepted; decide +kernel

/-- The two bytes that follow an image spell its signature, the upper one first. -/
theorem signatureBytes_spell (g : BitVec 16) :
    ∃ lo hi, hi ++ lo = g ∧ signatureBytes g = [lo, hi] := by
  refine ⟨byteOf g.toNat, byteOf (g.toNat / 256), ?_, rfl⟩
  apply BitVec.eq_of_toNat_eq
  have h := g.isLt
  refine (BitVec.toNat_append (byteOf (g.toNat / 256)) (byteOf g.toNat)).trans ?_
  simp only [byteOf, BitVec.toNat_ofNat]
  rw [← Nat.shiftLeft_add_eq_or_of_lt (by omega), Nat.shiftLeft_eq]
  omega

/-- Sound tables other than the factory ones. -/
def slowTables : Tables := { factoryTables with ballistics := ⟨16, 0, 0, 16⟩ }

theorem slowTables_sound : slowTables.Sound := by
  refine ⟨by unfold ChannelRec.InRange; decide +kernel, by decide +kernel,
    by unfold HeadRec.InRange; decide +kernel, by unfold MonitorRec.InRange; decide +kernel, ?_,
    by unfold HotkeyEntry.InRange; decide +kernel, ?_, ?_, by unfold Ballistics.InRange; decide,
    by unfold Desk.InRange; decide⟩
  · intro p m l hl
    have h : ∀ p m, (match nth (nth factoryTables.presets p) m with
        | none => true
        | some l => layoutWellFormed l) = true := by decide +kernel
    have := h p m
    rwa [show nth (nth factoryTables.presets p) m = some l from hl] at this
  · intro i
    have h : nth slowTables.keymaps i = [] := nth_replicate _ _
    rw [h]
    simp [Keymap.InRange]
  · intro m
    have h : nth slowTables.macros m = factoryMacro := nth_replicate _ _
    rw [h]
    simp [MacroRec.InRange, factoryMacro, MacroStep.InRange]

/-- A store that holds those tables. -/
def slowStore : State :=
  { State.reset with store := Vector.ofFn fun i => some (storeImage (tableAt i) slowTables) }

theorem test_hyps_StoreSaveAndLoad_sound (T : Table) :
    slowTables.Sound ∧ slowTables.ballistics ≠ factoryTables.ballistics ∧
    ∃ lo hi, hi ++ lo = signature (tableImage T slowTables) ∧
      nth slowStore.store (tableIndex T) = some (tableImage T slowTables ++ [lo, hi]) := by
  obtain ⟨lo, hi, h, hb⟩ := signatureBytes_spell (signature (tableImage T slowTables))
  refine ⟨slowTables_sound, by decide, lo, hi, h, ?_⟩
  rw [← hb]
  cases T <;> rfl

/-- Copies of BALLISTICS of a wrong length, and with a signature of 0 after its image. -/
theorem test_hyps_StoreSaveAndLoad_faulty :
    ([] : List Byte).length ≠ recordCount .ballistics * recordBytes .ballistics + 2 ∧
    (0 : Byte) ++ (0 : Byte) ≠ signature (tableImage .ballistics factoryTables) := by decide +kernel

/-- A SET_POLICY and an AUTHORITY write pending, their requester's slot waiting or overwritten. -/
def pendingAuthority : Confirm := ⟨0, .authorityWrite, tableFrame 2 8 1 [3], 10⟩

theorem test_hyps_ConfirmWindow :
    firstFailure .setPolicy 0 (plain []) up = none ∧
    firstFailure .writeTable 0 (tableFrame 2 8 1 [3]) up = none ∧ up.mgmt.confirm = none ∧
    (withConfirm pendingPolicy up).mgmt.confirm = some pendingPolicy ∧
    frameOk .setPolicy pendingPolicy.frame = true ∧
    (∀ b ∈ pendingPolicy.frame.payload, b.toNat < 4) ∧
    (∃ b ∈ (plain [1, 0, 2, 4, 0, 0]).payload, 4 ≤ b.toNat) ∧
    frameOk .setPolicy (plain [1, 0, 2]) = false ∧
    (withConfirm pendingAuthority lockedUp).locked .authority = true ∧
    (withConfirm pendingAuthority up).locked .authority = false ∧
    frameOk .writeTable pendingAuthority.frame = true ∧
    pendingAuthority.frame.first = byteOf ((7 : Chan).val + 1) ∧
    nth (put up.tables.authority 7 3) 0 = 0 := by decide +kernel

/-- Two floors of which the second is 4, floor 1 for channel 1 that leaves no floor 0, and a range past channel 8. -/
def twoFloors : Confirm := ⟨0, .authorityWrite, tableFrame 2 7 2 [1, 4], 10⟩

def noFloor : Confirm := ⟨0, .authorityWrite, tableFrame 2 1 1 [1], 10⟩

theorem test_hyps_ConfirmWindow_floors :
    (withConfirm twoFloors up).mgmt.confirm = some twoFloors ∧ twoFloors.frame.tableId = 2 ∧
    (up.locked .authority = false) ∧ 7 + 2 ≤ 9 ∧ 9 < 8 + 2 ∧ twoFloors.frame.payload.length = 2 ∧
    (∀ a : Vector (Fin 4) 8, a = put up.tables.authority 6 1 → ∀ d : Chan, (nth a d).val =
      if 7 ≤ d.val + 1 ∧ d.val + 1 < 7 + 2 ∧ (twoFloors.frame.payload.getD (d.val + 1 - 7) 0).toNat < 4 then
        (twoFloors.frame.payload.getD (d.val + 1 - 7) 0).toNat
      else (nth up.tables.authority d).val) ∧ nth (put up.tables.authority 6 1) 0 = 0 ∧
    4 ≤ (twoFloors.frame.payload.getD 1 0).toNat ∧ (twoFloors.frame.payload.getD 0 0).toNat < 4 ∧
    (∀ a : Vector (Fin 4) 8, a = put up.tables.authority 0 1 → (∀ d, nth a d ≠ 0) ∧
      ∀ d : Chan, (nth a d).val =
        if 1 ≤ d.val + 1 ∧ d.val + 1 < 1 + 1 ∧ (noFloor.frame.payload.getD (d.val + 1 - 1) 0).toNat < 4 then
          (noFloor.frame.payload.getD (d.val + 1 - 1) 0).toNat
        else (nth up.tables.authority d).val) := by
  refine ⟨by decide +kernel, by decide, by decide +kernel, by decide, by decide, by decide, ?_,
    by decide +kernel, by decide, by decide, ?_⟩ <;> rintro a rfl <;> decide +kernel

theorem test_hyps_EventsAndAlerts :
    Accepted .readEvents 0 (plain []) up ∧ Accepted .clearEvents 0 (plain [255, 255, 127]) up ∧
    Accepted .clearEvents 0 (plain [0, 0, 128]) up ∧ (127 : Byte).getLsbD 7 = false ∧
    (128 : Byte).getLsbD 7 = true := by
  unfold Accepted; decide +kernel

/-- An alert channel whose link is ACTIVE. -/
def alerted : State :=
  { up with tables := { up.tables with desk := { factoryDesk with alertChannel := some 0 } } }

theorem test_hyps_EventsAndAlerts_alerts :
    hasEvent alerted.tables.desk.alertSet .wakeFailed = true ∧
    hasEvent alerted.tables.desk.alertSet .linkUp = false ∧
    alerted.mgmt.alertOutstanding = false ∧ alerted.tables.desk.alertChannel = some 0 ∧
    (alerted.link 0).state = .active ∧
    hasEvent (latch .linkDown (latch .wakeFailed up)).mgmt.latch .linkDown = true ∧
    (∀ e ∈ [Event.deskStart, .storeFault, .linkUp],
      hasEvent (latch .linkDown (latch .wakeFailed up)).mgmt.latch e = false ∨
      hasEvent alerted.tables.desk.alertSet e = false) ∧
    (∀ e ∈ allEvents, hasEvent up.mgmt.latch e = false ∨
      hasEvent up.tables.desk.alertSet e = false) := by decide +kernel

theorem test_hyps_DeskRestart :
    Accepted .deskRestart 0 (plain []) up ∧ up.mgmt.confirm = none ∧
    up.pointer.channel = up.ownerOfPointer ∧ up.tables.desk.dwell ≠ 0 ∧
    (up.link 0).state = .active ∧ (up.link 1).state ≠ .active := by
  unfold Accepted; decide +kernel

/-- A SET_POLICY of channel 1 and of channel 4 pending in a slot that waits for it; DESK_START in the alert set and not, with an
alert channel whose link is ACTIVE. -/
theorem test_hyps_DeskRestart_pending (c : Chan) (hc : c = 0 ∨ c = 3) :
    ∃ cf r, cf.chan = c ∧ nth ((withConfirm cf up).setSlot c (some r)).mgmt.slots c = some r ∧
      r.awaits = some .confirm ∧
      Accepted .deskRestart 0 (plain []) ((withConfirm cf up).setSlot c (some r)) ∧
      ((withConfirm cf up).setSlot c (some r)).mgmt.confirm = some cf := by
  refine ⟨{ pendingPolicy with chan := c }, ⟨9, .pendingConfirm, 0, false, [], some .confirm⟩, rfl, ?_⟩
  obtain rfl | rfl := hc <;> unfold Accepted <;> decide +kernel

theorem test_hyps_DeskRestart_alert :
    alerted.tables.desk.alertChannel = some 0 ∧ (alerted.link 0).state = .active ∧
    hasEvent (eventSet [.deskStart]) .deskStart = true ∧ hasEvent (0 : EventSet) .deskStart = false ∧
    Accepted .deskRestart 0 (plain []) alerted ∧ (latch .deskStart up).mgmt.latch = eventSet [.deskStart] := by
  unfold Accepted; decide +kernel

theorem test_hyps_SignatureLaw :
    (0xFF : Byte) ++ (0xFF : Byte) = signature [] ∧
    (∀ r : BitVec 16, (fun r : BitVec 16 => if r.getLsbD 15 then (r <<< 1) ^^^ 0x1021#16 else r <<< 1) r =
      if r.getLsbD 15 then (r <<< 1) ^^^ 0x1021#16 else r <<< 1) :=
  ⟨by decide, fun _ => rfl⟩

theorem test_hyps_RecordRoundTrip :
    (⟨true, .relative, 3, 4, true, true, 4, 2000, 16384, 16384⟩ : ChannelRec).InRange ∧
    (⟨some 7, 7680, 4320, 16383, 16383⟩ : HeadRec).InRange ∧
    (⟨true, 32767, 0, 1, 4320, 144⟩ : MonitorRec).InRange ∧
    (factoryAttention 4 (.play 7)).InRange ∧ (⟨1, [.press 4]⟩ : MacroRec).InRange ∧
    (⟨2048, 255, 1024, 4096⟩ : Ballistics).InRange ∧
    ({ factoryDesk with attentionCode := 0, dwell := 1000, retainSet := 0x7FFFFF } : Desk).InRange ∧
    Keymap.InRange [] ∧ layoutWellFormed [⟨⟨7679, 4319, 1, 1⟩, some ⟨15, ⟨0, 0, 7680, 4320⟩⟩⟩] = true := by
  refine ⟨by unfold ChannelRec.InRange; decide, by unfold HeadRec.InRange; decide,
    by unfold MonitorRec.InRange; decide, by unfold HotkeyEntry.InRange; decide, ?_,
    by unfold Ballistics.InRange; decide, by unfold Desk.InRange; decide, ?_, by decide⟩
  · simp [MacroRec.InRange, MacroStep.InRange, isKeyCode, isOrdinary, isModifier]
  · simp [Keymap.InRange]

/-- A record of the length of each table but PRESETS, refused and taken. -/
theorem test_hyps_RecordRoundTrip_refused :
    (∀ T ∈ [Table.channels, .heads, .monitors, .hotkeys, .keymaps, .macros, .desk],
      (List.replicate (recordBytes T) (255 : Byte)).length = recordBytes T ∧
      readRecord T 0 (List.replicate (recordBytes T) 255) factoryTables = none) ∧
    readRecord .authority 0 [4] factoryTables = none ∧ parseLayout (List.replicate 69 0) = none ∧
    parsePreset (List.replicate 420 1) = none ∧ (List.replicate 420 (1 : Byte)).length = recordBytes .presets ∧
    (parsePreset (List.replicate 420 0)).isSome = true ∧
    ({ factoryMonitor 0 with refresh := 60 } : MonitorRec).InRange := by
  unfold MonitorRec.InRange; decide +kernel

end Sys2Proof.Tests
end

section
/-! The key-down table as a set of pairs: what a change of one pair does to membership and to the number of DELIVERED
entries of a code (R28, R38). -/

namespace Sys2Proof.Machine

/-! ## The order of the table (R28) -/

/-- An entry stands at a pair (port, code). -/
def KeyEntry.at (p : Port) (k : Code) (e : KeyEntry) : Prop := e.port = p ∧ e.code = k

theorem entryBefore_iff (a b : KeyEntry) : entryBefore a b = true ↔
    a.code < b.code ∨ a.code = b.code ∧ a.port = .key ∧ b.port = .aux := by
  simp [entryBefore, and_assoc]

/-- Two entries in order stand at different pairs. -/
theorem not_at_of_entryBefore {a b : KeyEntry} (h : entryBefore a b = true) :
    ¬ a.at b.port b.code := by
  rw [entryBefore_iff] at h
  rintro ⟨hp, hk⟩
  rcases h with h | ⟨-, ha, hb⟩
  · exact h.ne hk
  · rw [ha, hb] at hp; cases hp

theorem entryBefore_trans {a b c : KeyEntry} (h : entryBefore a b = true)
    (k : entryBefore b c = true) : entryBefore a c = true := by
  rw [entryBefore_iff] at *
  rcases h with h | ⟨h, ha, hb⟩ <;> rcases k with k | ⟨k, hb', hc⟩
  · exact .inl (h.trans k)
  · exact .inl (k ▸ h)
  · exact .inl (h ▸ k)
  · rw [hb] at hb'; cases hb'

theorem entryBefore_total {a b : KeyEntry} (h : ¬ a.at b.port b.code)
    (k : entryBefore a b = false) : entryBefore b a = true := by
  rw [← Bool.not_eq_true, entryBefore_iff] at k
  rw [entryBefore_iff]
  rcases Nat.lt_trichotomy a.code b.code with hk | hk | hk
  · exact absurd (.inl hk) k
  · refine .inr ⟨hk.symm, ?_⟩
    cases ha : a.port <;> cases hb : b.port <;> simp_all [KeyEntry.at]
  · exact .inl hk

/-- A table in the order of R28. -/
abbrev Sorted (es : List KeyEntry) : Prop := es.Pairwise fun a b => entryBefore a b = true

theorem Sorted.drop {es : List KeyEntry} (h : Sorted es) (p : Port) (k : Code) :
    Sorted (dropEntry p k es) := h.filter _

theorem Sorted.setTarget {es : List KeyEntry} (h : Sorted es) (p : Port) (k : Code)
    (t : KeyTarget) : Sorted (setTarget p k t es) := by
  refine List.pairwise_map.2 (h.imp fun {a b} hab => ?_)
  rw [entryBefore_iff] at hab ⊢
  split <;> split <;> exact hab

theorem insertEntry_perm (e : KeyEntry) (es : List KeyEntry) :
    (insertEntry e es).Perm (e :: es) := by
  induction es with
  | nil => exact .refl _
  | cons a t ih =>
    unfold insertEntry
    split
    · exact .refl _
    · exact (ih.cons a).trans (.swap e a t)

theorem Sorted.insert {es : List KeyEntry} (h : Sorted es) {e : KeyEntry}
    (ne : ∀ a ∈ es, ¬ a.at e.port e.code) : Sorted (insertEntry e es) := by
  induction es with
  | nil => exact List.pairwise_singleton _ _
  | cons a t ih =>
    obtain ⟨ha, ht⟩ := List.pairwise_cons.1 h
    unfold insertEntry
    split
    · rename_i hea
      refine List.pairwise_cons.2 ⟨fun b hb => ?_, h⟩
      rcases List.mem_cons.1 hb with rfl | hb
      · exact hea
      · exact entryBefore_trans hea (ha b hb)
    · rename_i hea
      have hae : entryBefore a e = true := entryBefore_total
        (fun ⟨hp, hk⟩ => ne a (by simp) ⟨hp.symm, hk.symm⟩) (by simpa using hea)
      refine List.pairwise_cons.2 ⟨fun b hb => ?_, ih ht fun b hb => ne b (by simp [hb])⟩
      rcases List.mem_cons.1 ((insertEntry_perm e t).mem_iff.1 hb) with rfl | hb
      · exact hae
      · exact ha b hb

theorem Sorted.put {es : List KeyEntry} (h : Sorted es) (e : KeyEntry) : Sorted (putEntry e es) :=
  (h.drop e.port e.code).insert fun _ ha => (mem_dropEntry.1 ha).2

/-- A table has at most one entry at a pair (R28). -/
theorem Sorted.unique {es : List KeyEntry} (h : Sorted es) {a b : KeyEntry} (ha : a ∈ es)
    (hb : b ∈ es) (hab : a.at b.port b.code) : a = b := by
  induction h with
  | nil => cases ha
  | cons hx _ ih =>
    rcases List.mem_cons.1 ha with rfl | ha' <;> rcases List.mem_cons.1 hb with rfl | hb'
    · rfl
    · exact absurd hab (not_at_of_entryBefore (hx _ hb'))
    · exact absurd ⟨hab.1.symm, hab.2.symm⟩ (not_at_of_entryBefore (hx _ ha'))
    · exact ih ha' hb'

theorem dropEntry_of_absent {p : Port} {k : Code} {es : List KeyEntry}
    (h : ∀ e ∈ es, ¬ e.at p k) : dropEntry p k es = es :=
  List.filter_eq_self.2 fun e he => by simpa [KeyEntry.at, imp_iff_not_or] using h e he

theorem dropEntry_cons_at {p : Port} {k : Code} {a : KeyEntry} (h : a.at p k)
    (es : List KeyEntry) : dropEntry p k (a :: es) = dropEntry p k es :=
  List.filter_cons_of_neg (by simpa [KeyEntry.at] using h)

theorem dropEntry_cons_not_at {p : Port} {k : Code} {a : KeyEntry} (h : ¬ a.at p k)
    (es : List KeyEntry) : dropEntry p k (a :: es) = a :: dropEntry p k es :=
  List.filter_cons_of_pos (by simpa [KeyEntry.at, imp_iff_not_or] using h)

theorem setTarget_cons_at {p : Port} {k : Code} {a : KeyEntry} (h : a.at p k) (t : KeyTarget)
    (es : List KeyEntry) : setTarget p k t (a :: es) = ⟨p, k, t⟩ :: setTarget p k t es := by
  obtain ⟨rfl, rfl⟩ := h
  simp [setTarget]

theorem setTarget_cons_not_at {p : Port} {k : Code} {a : KeyEntry} (h : ¬ a.at p k)
    (t : KeyTarget) (es : List KeyEntry) :
    setTarget p k t (a :: es) = a :: setTarget p k t es := by
  simp only [setTarget, List.map_cons, Bool.and_eq_true, beq_iff_eq, List.cons.injEq, and_true]
  exact if_neg h

theorem setTarget_of_absent {p : Port} {k : Code} {es : List KeyEntry} (t : KeyTarget)
    (h : ∀ e ∈ es, ¬ e.at p k) : setTarget p k t es = es := by
  induction es with
  | nil => rfl
  | cons a es ih =>
    rw [setTarget_cons_not_at (h a (by simp)), ih fun e he => h e (by simp [he])]

/-- What follows an entry in a table stands at other pairs. -/
theorem Sorted.tail_not_at {a : KeyEntry} {es : List KeyEntry} (h : Sorted (a :: es)) {p : Port}
    {k : Code} (ha : a.at p k) : ∀ e ∈ es, ¬ e.at p k := by
  obtain ⟨rfl, rfl⟩ := ha
  exact fun e he hp => not_at_of_entryBefore ((List.pairwise_cons.1 h).1 e he)
    ⟨hp.1.symm, hp.2.symm⟩

/-! ## Swaps: one pair of the table changed -/

/-- The entries of a pair whose target is `x`, which is absent for a pair without an entry. -/
def entriesAt (p : Port) (k : Code) (x : Option KeyTarget) : List KeyEntry :=
  x.toList.map fun t => ⟨p, k, t⟩

/-- Two tables that differ at the pair (p, k) alone, where the first has target `x` and the second `y`. -/
structure Swap (p : Port) (k : Code) (x y : Option KeyTarget) (es es' : List KeyEntry) : Prop where
  old : es.Perm (entriesAt p k x ++ dropEntry p k es)
  new : es'.Perm (entriesAt p k y ++ dropEntry p k es)

theorem Sorted.perm_at {es : List KeyEntry} (h : Sorted es) {p : Port} {k : Code} {x : KeyTarget}
    (hx : ⟨p, k, x⟩ ∈ es) : es.Perm (⟨p, k, x⟩ :: dropEntry p k es) := by
  induction es with
  | nil => cases hx
  | cons a es ih =>
    by_cases ha : a.at p k
    · obtain rfl : a = ⟨p, k, x⟩ := h.unique (by simp) hx ha
      rw [dropEntry_cons_at ha, dropEntry_of_absent (h.tail_not_at ha)]
    · have hx' : ⟨p, k, x⟩ ∈ es := by
        rcases List.mem_cons.1 hx with rfl | hx
        · exact absurd ⟨rfl, rfl⟩ ha
        · exact hx
      rw [dropEntry_cons_not_at ha]
      exact ((ih h.of_cons hx').cons a).trans (.swap _ _ _)

theorem Sorted.setTarget_perm {es : List KeyEntry} (h : Sorted es) {p : Port} {k : Code}
    {x : KeyTarget} (hx : ⟨p, k, x⟩ ∈ es) (y : KeyTarget) :
    (Machine.setTarget p k y es).Perm (⟨p, k, y⟩ :: dropEntry p k es) := by
  induction es with
  | nil => cases hx
  | cons a es ih =>
    by_cases ha : a.at p k
    · rw [setTarget_cons_at ha, dropEntry_cons_at ha, setTarget_of_absent _ (h.tail_not_at ha),
        dropEntry_of_absent (h.tail_not_at ha)]
    · have hx' : ⟨p, k, x⟩ ∈ es := by
        rcases List.mem_cons.1 hx with rfl | hx
        · exact absurd ⟨rfl, rfl⟩ ha
        · exact hx
      rw [setTarget_cons_not_at ha, dropEntry_cons_not_at ha]
      exact ((ih h.of_cons hx').cons a).trans (.swap _ _ _)

/-- The target of a pair, which is absent for a pair without an entry. -/
def targetAt (p : Port) (k : Code) (es : List KeyEntry) : Option KeyTarget :=
  (findEntry p k es).map (·.target)

theorem findEntry_eq_some {p : Port} {k : Code} {es : List KeyEntry} {e : KeyEntry}
    (h : findEntry p k es = some e) : e ∈ es ∧ e = ⟨p, k, e.target⟩ := by
  refine ⟨List.mem_of_find?_eq_some h, ?_⟩
  have := List.find?_some h
  simp only [Bool.and_eq_true, beq_iff_eq] at this
  obtain ⟨rfl, rfl⟩ := this
  rfl

theorem findEntry_eq_none {p : Port} {k : Code} {es : List KeyEntry} :
    findEntry p k es = none ↔ ∀ e ∈ es, ¬ e.at p k := by
  simp [findEntry, KeyEntry.at]

theorem Sorted.findEntry_of_mem {es : List KeyEntry} (h : Sorted es) {p : Port} {k : Code}
    {x : KeyTarget} (hx : ⟨p, k, x⟩ ∈ es) : findEntry p k es = some ⟨p, k, x⟩ := by
  cases hf : findEntry p k es with
  | none => exact absurd ⟨rfl, rfl⟩ (findEntry_eq_none.1 hf _ hx)
  | some e =>
    obtain ⟨he, he'⟩ := findEntry_eq_some hf
    rw [he'] at he ⊢
    rw [h.unique he hx ⟨rfl, rfl⟩]

/-- A table is the entry of a pair, if there is one, and the rest. -/
theorem Sorted.perm_targetAt {es : List KeyEntry} (h : Sorted es) (p : Port) (k : Code) :
    es.Perm (entriesAt p k (targetAt p k es) ++ dropEntry p k es) := by
  unfold targetAt
  cases hf : findEntry p k es with
  | none => rw [dropEntry_of_absent (findEntry_eq_none.1 hf)]; exact .refl _
  | some e =>
    obtain ⟨he, he'⟩ := findEntry_eq_some hf
    rw [he'] at he
    exact h.perm_at he

theorem Sorted.swap_put {es : List KeyEntry} (h : Sorted es) (p : Port) (k : Code)
    (y : KeyTarget) : Swap p k (targetAt p k es) (some y) es (putEntry ⟨p, k, y⟩ es) :=
  ⟨h.perm_targetAt p k, insertEntry_perm _ _⟩

theorem Sorted.swap_setTarget {es : List KeyEntry} (h : Sorted es) {p : Port} {k : Code}
    {x : KeyTarget} (hx : ⟨p, k, x⟩ ∈ es) (y : KeyTarget) :
    Swap p k (some x) (some y) es (Machine.setTarget p k y es) :=
  ⟨h.perm_at hx, h.setTarget_perm hx y⟩

namespace Swap

variable {p : Port} {k : Code} {x y : Option KeyTarget} {es es' : List KeyEntry}

theorem mem_entriesAt {e : KeyEntry} : e ∈ entriesAt p k x ↔ ∃ t, x = some t ∧ e = ⟨p, k, t⟩ := by
  cases x <;> simp [entriesAt]

/-- Entries of other pairs stand as they did. -/
theorem mem_other (h : Swap p k x y es es') {e : KeyEntry} (he : ¬ e.at p k) :
    e ∈ es' ↔ e ∈ es := by
  have hat : ∀ z, e ∉ entriesAt p k z := fun z hz => by
    obtain ⟨t, -, rfl⟩ := mem_entriesAt.1 hz
    exact he ⟨rfl, rfl⟩
  rw [h.new.mem_iff, h.old.mem_iff, List.mem_append, List.mem_append]
  simp [hat]

theorem mem_new (h : Swap p k x y es es') {t : KeyTarget} : ⟨p, k, t⟩ ∈ es' ↔ y = some t := by
  rw [h.new.mem_iff, List.mem_append, mem_entriesAt]
  simp [mem_dropEntry]

theorem mem_old (h : Swap p k x y es es') {t : KeyTarget} : ⟨p, k, t⟩ ∈ es ↔ x = some t := by
  rw [h.old.mem_iff, List.mem_append, mem_entriesAt]
  simp [mem_dropEntry]

/-- A swap to a target that is there changes nothing but the order; an entry of the new table stands at a pair of the
old, but for the swapped one. -/
theorem mem_pair (h : Swap p k x y es es') {e : KeyEntry} (he : e ∈ es') :
    e ∈ es ∨ e.at p k := by
  by_cases hat : e.at p k
  · exact .inr hat
  · exact .inl ((h.mem_other hat).1 he)

end Swap

end Sys2Proof.Machine
end

section
/-! The hold queue as a list (R11): the presses it names, and the releases that stand behind presses of their own. -/

namespace Sys2Proof.Machine

/-! ## DELIVERED entries of a code (R38) -/

/-- The DELIVERED entries that keep code k down on channel c. -/
def heldBy (es : List KeyEntry) (c : Chan) (k : Code) : Nat :=
  es.countP fun e => e.target == .channel c (some k) .delivered

/-- What a pair's target adds to the count of code k on channel c. -/
def contributes (x : Option KeyTarget) (c : Chan) (k : Code) : Nat :=
  if x = some (.channel c (some k) .delivered) then 1 else 0

theorem heldBy_perm {es es' : List KeyEntry} (h : es.Perm es') (c : Chan) (k : Code) :
    heldBy es c k = heldBy es' c k := h.countP_eq _

theorem heldBy_entriesAt (p : Port) (j : Code) (x : Option KeyTarget) (es : List KeyEntry)
    (c : Chan) (k : Code) :
    heldBy (entriesAt p j x ++ es) c k = contributes x c k + heldBy es c k := by
  cases x with
  | none => simp [heldBy, entriesAt, contributes]
  | some t => simp [heldBy, entriesAt, contributes, List.countP_cons, Nat.add_comm]

theorem Swap.heldBy {p : Port} {j : Code} {x y : Option KeyTarget} {es es' : List KeyEntry}
    (h : Swap p j x y es es') (c : Chan) (k : Code) :
    heldBy es' c k + contributes x c k = Machine.heldBy es c k + contributes y c k := by
  rw [heldBy_perm h.new, heldBy_perm h.old, heldBy_entriesAt, heldBy_entriesAt]
  omega

/-! ## Names -/

/-- A list names exactly the things with a property, each once. -/
def NamesExactly {α : Type} (l : List α) (P : α → Prop) : Prop := l.Nodup ∧ ∀ a, a ∈ l ↔ P a

theorem NamesExactly.congr {α : Type} {l : List α} {P Q : α → Prop} (h : NamesExactly l P)
    (hPQ : ∀ a, Q a ↔ P a) : NamesExactly l Q := ⟨h.1, fun a => (h.2 a).trans (hPQ a).symm⟩

theorem NamesExactly.snoc {α : Type} {l : List α} {P Q : α → Prop} {a : α}
    (h : NamesExactly l P) (ha : ¬ P a) (hQ : ∀ b, Q b ↔ P b ∨ b = a) :
    NamesExactly (l ++ [a]) Q := by
  refine ⟨List.nodup_append.2 ⟨h.1, List.nodup_singleton a, ?_⟩, fun b => ?_⟩
  · rintro b hb c hc rfl
    exact ha (List.mem_singleton.1 hc ▸ (h.2 b).1 hb)
  · simp [hQ, h.2 b]

theorem NamesExactly.erase {α : Type} [BEq α] [LawfulBEq α] {l : List α} {P Q : α → Prop} {a : α}
    (h : NamesExactly l P) (hQ : ∀ b, Q b ↔ P b ∧ b ≠ a) : NamesExactly (l.erase a) Q :=
  ⟨h.1.erase a, fun b => by rw [h.1.mem_erase_iff, hQ, h.2 b, and_comm]⟩

theorem NamesExactly.empty_iff {α : Type} {P : α → Prop} :
    NamesExactly [] P ↔ ∀ a, ¬ P a := by simp [NamesExactly]

theorem NamesExactly.tail {α : Type} {l : List α} {P Q : α → Prop} {a : α}
    (h : NamesExactly (a :: l) P) (hQ : ∀ b, Q b ↔ P b ∧ b ≠ a) : NamesExactly l Q := by
  obtain ⟨ha, hl⟩ := List.nodup_cons.1 h.1
  refine ⟨hl, fun b => ?_⟩
  rw [hQ, ← h.2 b, List.mem_cons]
  constructor
  · exact fun hb => ⟨.inr hb, fun e => ha (e ▸ hb)⟩
  · rintro ⟨rfl | hb, hne⟩
    · exact absurd rfl hne
    · exact hb

/-- The presses of a queue that name key-down entries. -/
def namedKeys (q : List HoldItem) : List (Port × Code × Code) := q.filterMap HoldItem.namedKey

/-- The presses of a queue that name button entries. -/
def namedButtons (q : List HoldItem) : List Button := q.filterMap HoldItem.namedButton

@[simp] theorem namedKeys_nil : namedKeys [] = [] := rfl

@[simp] theorem namedButtons_nil : namedButtons [] = [] := rfl

@[simp] theorem namedKeys_cons (i : HoldItem) (q : List HoldItem) :
    namedKeys (i :: q) = i.namedKey.toList ++ namedKeys q := by
  unfold namedKeys
  cases h : i.namedKey <;> simp [h]

@[simp] theorem namedButtons_cons (i : HoldItem) (q : List HoldItem) :
    namedButtons (i :: q) = i.namedButton.toList ++ namedButtons q := by
  unfold namedButtons
  cases h : i.namedButton <;> simp [h]

@[simp] theorem namedKeys_append (q q' : List HoldItem) :
    namedKeys (q ++ q') = namedKeys q ++ namedKeys q' := List.filterMap_append

@[simp] theorem namedButtons_append (q q' : List HoldItem) :
    namedButtons (q ++ q') = namedButtons q ++ namedButtons q' := List.filterMap_append

/-- Every press that names an entry names a key's or a button's. -/
theorem HoldItem.names_toNat (i : HoldItem) :
    i.names.toNat = i.namedKey.toList.length + i.namedButton.toList.length := by
  rcases i with ⟨p, k, t, _ | _⟩ | _ | ⟨b, _ | _⟩ | _ | ⟨p, k, t, _ | _⟩ <;> rfl

theorem countP_cons_toNat {α : Type} (f : α → Bool) (a : α) (l : List α) :
    (a :: l).countP f = l.countP f + (f a).toNat := by
  rw [List.countP_cons]; cases f a <;> rfl

theorem countP_names (q : List HoldItem) :
    q.countP HoldItem.names = (namedKeys q).length + (namedButtons q).length := by
  induction q with
  | nil => rfl
  | cons i q ih =>
    rw [countP_cons_toNat, ih, i.names_toNat, namedKeys_cons, namedButtons_cons,
      List.length_append, List.length_append]
    omega

theorem HoldItem.namedButton_forgetKey (p : Port) (k : Code) (i : HoldItem) :
    (i.forgetKey p k).namedButton = i.namedButton := by cases i <;> rfl

theorem HoldItem.namedKey_forgetButton (b : Button) (i : HoldItem) :
    (i.forgetButton b).namedKey = i.namedKey := by cases i <;> rfl

theorem HoldItem.namedKey_forgetKey (p : Port) (k : Code) (i : HoldItem) :
    (i.forgetKey p k).namedKey = i.namedKey.filter fun a => !(a.1 == p && a.2.1 == k) := by
  rcases i with ⟨q, j, t, _ | _⟩ | _ | _ | _ | ⟨q, j, t, _ | _⟩ <;> try rfl
  all_goals
    by_cases h : (q == p && j == k) = true <;> simp [forgetKey, namedKey, h, Option.filter]

theorem HoldItem.namedButton_forgetButton (b : Button) (i : HoldItem) :
    (i.forgetButton b).namedButton = i.namedButton.filter fun d => !(d == b) := by
  rcases i with _ | _ | ⟨d, _ | _⟩ | _ | _ <;> try rfl
  by_cases h : (d == b) = true <;> simp [forgetButton, namedButton, h, Option.filter]

/-- Where no two presses of a pair have different translations, a forgotten entry is one name less. -/
theorem namedKeys_forgetKey {q : List HoldItem} {p : Port} {k t : Code} (h : (namedKeys q).Nodup)
    (ht : ∀ u, (p, k, u) ∈ namedKeys q → u = t) :
    namedKeys (q.map (HoldItem.forgetKey p k)) = (namedKeys q).erase (p, k, t) := by
  have hfilter : namedKeys (q.map (HoldItem.forgetKey p k)) =
      (namedKeys q).filter fun a => !(a.1 == p && a.2.1 == k) := by
    simp only [namedKeys, List.filterMap_map, Function.comp_def, HoldItem.namedKey_forgetKey,
      List.filter_filterMap]
  rw [hfilter, h.erase_eq_filter]
  refine List.filter_congr fun ⟨q', j, u⟩ ha => ?_
  by_cases hpk : q' = p ∧ j = k
  · obtain ⟨rfl, rfl⟩ := hpk
    simp [ht u ha]
  · have hne : (q', j, u) ≠ (p, k, t) := fun he => hpk (by simp_all)
    rw [bne, beq_false_of_ne hne]
    simpa [imp_iff_not_or] using hpk

theorem namedButtons_forgetButton {q : List HoldItem} {b : Button} (h : (namedButtons q).Nodup) :
    namedButtons (q.map (HoldItem.forgetButton b)) = (namedButtons q).erase b := by
  rw [h.erase_eq_filter]
  simp only [namedButtons, List.filterMap_map, Function.comp_def,
    HoldItem.namedButton_forgetButton, List.filter_filterMap]
  rfl

@[simp] theorem namedButtons_forgetKey (q : List HoldItem) (p : Port) (k : Code) :
    namedButtons (q.map (HoldItem.forgetKey p k)) = namedButtons q := by
  simp only [namedButtons, List.filterMap_map, Function.comp_def, HoldItem.namedButton_forgetKey]

@[simp] theorem namedKeys_forgetButton (q : List HoldItem) (b : Button) :
    namedKeys (q.map (HoldItem.forgetButton b)) = namedKeys q := by
  simp only [namedKeys, List.filterMap_map, Function.comp_def, HoldItem.namedKey_forgetButton]

/-! ## Releases behind their presses -/

/-- The releases of code t in a queue. -/
def relCount (t : Code) (q : List HoldItem) : Nat := q.countP (HoldItem.releases t)

/-- The presses of code t in a queue that name no entry. -/
def aloneCount (t : Code) (q : List HoldItem) : Nat := q.countP (HoldItem.pressesAlone t)

@[simp] theorem relCount_nil (t : Code) : relCount t [] = 0 := rfl

@[simp] theorem aloneCount_nil (t : Code) : aloneCount t [] = 0 := rfl

@[simp] theorem relCount_cons (t : Code) (i : HoldItem) (q : List HoldItem) :
    relCount t (i :: q) = relCount t q + (i.releases t).toNat := countP_cons_toNat ..

@[simp] theorem aloneCount_cons (t : Code) (i : HoldItem) (q : List HoldItem) :
    aloneCount t (i :: q) = aloneCount t q + (i.pressesAlone t).toNat := countP_cons_toNat ..

@[simp] theorem relCount_append (t : Code) (q q' : List HoldItem) :
    relCount t (q ++ q') = relCount t q + relCount t q' := List.countP_append

@[simp] theorem aloneCount_append (t : Code) (q q' : List HoldItem) :
    aloneCount t (q ++ q') = aloneCount t q + aloneCount t q' := List.countP_append

/-- No place of a queue has more releases of code t before it than presses of their own, of which d stand before the
queue. -/
def Covered (t : Code) (d : Nat) (q : List HoldItem) : Prop :=
  ∀ n, relCount t (q.take n) ≤ aloneCount t (q.take n) + d

theorem Covered.snoc {t : Code} {d : Nat} {q : List HoldItem} {i : HoldItem} (h : Covered t d q)
    (hi : relCount t (q ++ [i]) ≤ aloneCount t (q ++ [i]) + d) : Covered t d (q ++ [i]) := by
  intro n
  rcases Nat.lt_or_ge q.length n with hn | hn
  · rwa [List.take_of_length_le (by simp; omega)]
  · rw [List.take_append_of_le_length hn]
    exact h n

/-- What stands before a queue when its head is taken. -/
theorem Covered.tail {t : Code} {d e : Nat} {q : List HoldItem} {i : HoldItem}
    (h : Covered t d (i :: q))
    (he : d + (i.pressesAlone t).toNat = e + (i.releases t).toNat) : Covered t e q := by
  intro n
  have := h (n + 1)
  simp only [List.take_succ_cons, relCount_cons, aloneCount_cons] at this
  omega

theorem HoldItem.releases_forgetKey (t : Code) (p : Port) (k : Code) (i : HoldItem) :
    (i.forgetKey p k).releases t = i.releases t := by cases i <;> rfl

/-- A press names no entry once its entry is forgotten. -/
theorem HoldItem.pressesAlone_forgetKey (t : Code) (p : Port) (k : Code) (i : HoldItem) :
    ((i.forgetKey p k).pressesAlone t).toNat =
      (i.pressesAlone t).toNat + i.namedKey.toList.count (p, k, t) := by
  rcases i with ⟨q, j, u, _ | _⟩ | _ | _ | _ | ⟨q, j, u, _ | _⟩ <;> try rfl
  all_goals
    by_cases h : q = p ∧ j = k
    · by_cases hu : u = t <;> simp [forgetKey, pressesAlone, namedKey, h, hu]
    · have hne : (q, j, u) ≠ (p, k, t) := fun he => h (by simp_all)
      have hf : (q == p && j == k) = false := by simpa [imp_iff_not_or] using h
      simp [forgetKey, pressesAlone, namedKey, hf, hne]

theorem relCount_forgetKey (t : Code) (p : Port) (k : Code) (q : List HoldItem) :
    relCount t (q.map (HoldItem.forgetKey p k)) = relCount t q := by
  simp only [relCount, List.countP_map, Function.comp_def, HoldItem.releases_forgetKey]

theorem aloneCount_forgetKey (t : Code) (p : Port) (k : Code) (q : List HoldItem) :
    aloneCount t (q.map (HoldItem.forgetKey p k)) =
      aloneCount t q + (namedKeys q).count (p, k, t) := by
  induction q with
  | nil => rfl
  | cons i q ih =>
    rw [List.map_cons, aloneCount_cons, aloneCount_cons, ih, HoldItem.pressesAlone_forgetKey,
      namedKeys_cons, List.count_append]
    omega

theorem Covered.forgetKey {t : Code} {d : Nat} {q : List HoldItem} (h : Covered t d q) (p : Port)
    (k : Code) : Covered t d (q.map (HoldItem.forgetKey p k)) := by
  intro n
  rw [← List.map_take, relCount_forgetKey, aloneCount_forgetKey]
  have := h n
  omega

theorem HoldItem.releases_forgetButton (t : Code) (b : Button) (i : HoldItem) :
    (i.forgetButton b).releases t = i.releases t := by cases i <;> rfl

theorem HoldItem.pressesAlone_forgetButton (t : Code) (b : Button) (i : HoldItem) :
    (i.forgetButton b).pressesAlone t = i.pressesAlone t := by cases i <;> rfl

@[simp] theorem relCount_forgetButton (t : Code) (b : Button) (q : List HoldItem) :
    relCount t (q.map (HoldItem.forgetButton b)) = relCount t q := by
  simp only [relCount, List.countP_map, Function.comp_def, HoldItem.releases_forgetButton]

@[simp] theorem aloneCount_forgetButton (t : Code) (b : Button) (q : List HoldItem) :
    aloneCount t (q.map (HoldItem.forgetButton b)) = aloneCount t q := by
  simp only [aloneCount, List.countP_map, Function.comp_def, HoldItem.pressesAlone_forgetButton]

theorem Covered.forgetButton {t : Code} {d : Nat} {q : List HoldItem} (h : Covered t d q)
    (b : Button) : Covered t d (q.map (HoldItem.forgetButton b)) := by
  intro n
  rw [← List.map_take, relCount_forgetButton, aloneCount_forgetButton]
  exact h n

/-! ## A sound queue (R11) -/

/-- One channel's hold queue with r reservations, beside a key-down table and a button table (R11). -/
structure QueueOk (es : List KeyEntry) (bs : Button → Option ButtonTarget) (c : Chan)
    (q : List HoldItem) (r : Nat) : Prop where
  fits : q.length + r ≤ 32
  reserved : r = q.countP HoldItem.names
  keys : NamesExactly (namedKeys q) fun a =>
    ⟨a.1, a.2.1, .channel c (some a.2.2) .queued⟩ ∈ es
  buttons : NamesExactly (namedButtons q) fun b => bs b = some (.channel c .queued)
  balance : ∀ t, relCount t q = aloneCount t q
  covered : ∀ t, Covered t 0 q

theorem queueSound_iff (s : State) (c : Chan) : QueueSound s c ↔
    QueueOk s.router.entries (nth s.pointer.buttons) c (s.link c).queue (s.link c).reserved := by
  constructor
  · rintro ⟨fits, reserved, keysNodup, keys, buttonsNodup, buttons, balance, covered⟩
    exact ⟨fits, reserved, ⟨keysNodup, fun ⟨p, k, t⟩ => keys p k t⟩, ⟨buttonsNodup, buttons⟩,
      balance, covered⟩
  · rintro ⟨fits, reserved, keys, buttons, balance, covered⟩
    exact ⟨fits, reserved, keys.1, fun p k t => keys.2 (p, k, t), buttons.1, buttons.2, balance,
      covered⟩

namespace QueueOk

variable {es es' : List KeyEntry} {bs bs' : Button → Option ButtonTarget} {c : Chan}
  {q : List HoldItem} {r : Nat}

/-- A queue rests on the entries QUEUED on its channel alone. -/
theorem congr (h : QueueOk es bs c q r)
    (hes : ∀ p k t, ⟨p, k, .channel c (some t) .queued⟩ ∈ es' ↔
      ⟨p, k, .channel c (some t) .queued⟩ ∈ es)
    (hbs : ∀ b, bs' b = some (.channel c .queued) ↔ bs b = some (.channel c .queued)) :
    QueueOk es' bs' c q r :=
  { h with keys := h.keys.congr fun a => hes a.1 a.2.1 a.2.2, buttons := h.buttons.congr hbs }

/-- An empty queue with no entry QUEUED on its channel. -/
theorem empty (hes : ∀ p k t, ⟨p, k, .channel c (some t) .queued⟩ ∉ es)
    (hbs : ∀ b, bs b ≠ some (.channel c .queued)) : QueueOk es bs c [] 0 where
  fits := by simp
  reserved := rfl
  keys := NamesExactly.empty_iff.2 fun a => hes a.1 a.2.1 a.2.2
  buttons := NamesExactly.empty_iff.2 hbs
  balance _ := rfl
  covered _ _ := by simp

/-- A press of a key that is now QUEUED on the channel joins with a reservation (R13). -/
theorem joinKey (h : QueueOk es bs c q r) {p : Port} {k t : Code} {i : HoldItem}
    (hi : i = .keyDown p k t true ∨ i = .modHandover p k t true) (room : q.length + r + 2 ≤ 32)
    (old : ∀ u, ⟨p, k, .channel c (some u) .queued⟩ ∉ es)
    (new : ∀ p' k' t', ⟨p', k', .channel c (some t') .queued⟩ ∈ es' ↔
      ⟨p', k', .channel c (some t') .queued⟩ ∈ es ∨ (p', k', t') = (p, k, t)) :
    QueueOk es' bs c (q ++ [i]) (r + 1) := by
  obtain ⟨hkey, hbutton, hnames, hrel, halone⟩ : i.namedKey = some (p, k, t) ∧
      i.namedButton = none ∧ i.names = true ∧ (∀ u, i.releases u = false) ∧
      ∀ u, i.pressesAlone u = false := by
    rcases hi with rfl | rfl <;> simp [HoldItem.namedKey, HoldItem.namedButton, HoldItem.names,
      HoldItem.releases, HoldItem.pressesAlone]
  have hbal : ∀ u, relCount u (q ++ [i]) = aloneCount u (q ++ [i]) := by
    simpa [hrel, halone] using h.balance
  refine ⟨by simp; omega, by simp [h.reserved, hnames], ?_, ?_, hbal, ?_⟩
  · simpa [hkey] using h.keys.snoc (old t) fun a => new a.1 a.2.1 a.2.2
  · simpa [hbutton] using h.buttons
  · exact fun u => (h.covered u).snoc (hbal u).le

/-- A press of a button that is now QUEUED on the channel joins with a reservation (R13). -/
theorem joinButton (h : QueueOk es bs c q r) {b : Button} (room : q.length + r + 2 ≤ 32)
    (old : bs b ≠ some (.channel c .queued))
    (new : ∀ d, bs' d = some (.channel c .queued) ↔ bs d = some (.channel c .queued) ∨ d = b) :
    QueueOk es bs' c (q ++ [.buttonDown b true]) (r + 1) := by
  have hbal : ∀ u, relCount u (q ++ [.buttonDown b true]) = aloneCount u (q ++ [.buttonDown b true]) := by
    simpa [HoldItem.releases, HoldItem.pressesAlone] using h.balance
  refine ⟨by simp; omega, by simp [h.reserved, HoldItem.names], ?_, ?_, hbal, ?_⟩
  · simpa [HoldItem.namedKey] using h.keys
  · simpa [HoldItem.namedButton] using h.buttons.snoc old new
  · exact fun u => (h.covered u).snoc (hbal u).le

/-- The release of a QUEUED key takes the place its press reserved, and the press names no entry any more (R14). -/
theorem unjoinKey (h : QueueOk es bs c q r) {p : Port} {k t : Code}
    (old : ∀ u, ⟨p, k, .channel c (some u) .queued⟩ ∈ es ↔ u = t)
    (new : ∀ p' k' t', ⟨p', k', .channel c (some t') .queued⟩ ∈ es' ↔
      ⟨p', k', .channel c (some t') .queued⟩ ∈ es ∧ (p', k', t') ≠ (p, k, t)) :
    QueueOk es' bs c (q.map (HoldItem.forgetKey p k) ++ [.keyUp p k t false]) (r - 1) := by
  have ht : ∀ u, (p, k, u) ∈ namedKeys q → u = t := fun u hu => (old u).1 ((h.keys.2 _).1 hu)
  have hmem : (p, k, t) ∈ namedKeys q := (h.keys.2 _).2 ((old t).2 rfl)
  have hkeys := namedKeys_forgetKey h.keys.1 ht
  have hlen := List.length_erase_add_one hmem
  have hr := h.reserved
  rw [countP_names] at hr
  have hcount : ∀ u, (namedKeys q).count (p, k, u) = (t == u).toNat := fun u => by
    by_cases hu : t = u
    · subst hu
      simpa using List.count_eq_one_of_mem h.keys.1 hmem
    · simpa [beq_false_of_ne hu] using List.count_eq_zero.2 fun hm => hu (ht u hm).symm
  have hbal : ∀ u, relCount u (q.map (HoldItem.forgetKey p k) ++ [.keyUp p k t false]) =
      aloneCount u (q.map (HoldItem.forgetKey p k) ++ [.keyUp p k t false]) := fun u => by
    rw [relCount_append, aloneCount_append, relCount_forgetKey, aloneCount_forgetKey, hcount,
      h.balance]
    simp [HoldItem.releases, HoldItem.pressesAlone]
  refine ⟨?_, ?_, ?_, ?_, hbal, ?_⟩
  · have := h.fits
    simp; omega
  · rw [countP_names, namedKeys_append, hkeys, namedButtons_append, namedButtons_forgetKey]
    simp [HoldItem.namedKey, HoldItem.namedButton]
    omega
  · rw [namedKeys_append, hkeys]
    simpa [HoldItem.namedKey] using h.keys.erase fun a => new a.1 a.2.1 a.2.2
  · simpa [HoldItem.namedButton] using h.buttons
  · exact fun u => ((h.covered u).forgetKey p k).snoc (hbal u).le

/-- The release of a QUEUED button takes the place its press reserved (R14). -/
theorem unjoinButton (h : QueueOk es bs c q r) {b : Button}
    (old : bs b = some (.channel c .queued))
    (new : ∀ d, bs' d = some (.channel c .queued) ↔ bs d = some (.channel c .queued) ∧ d ≠ b) :
    QueueOk es bs' c (q.map (HoldItem.forgetButton b) ++ [.buttonUp b false]) (r - 1) := by
  have hmem : b ∈ namedButtons q := (h.buttons.2 _).2 old
  have hbuttons := namedButtons_forgetButton (b := b) h.buttons.1
  have hlen := List.length_erase_add_one hmem
  have hr := h.reserved
  rw [countP_names] at hr
  have hbal : ∀ u, relCount u (q.map (HoldItem.forgetButton b) ++ [.buttonUp b false]) =
      aloneCount u (q.map (HoldItem.forgetButton b) ++ [.buttonUp b false]) := by
    simpa [HoldItem.releases, HoldItem.pressesAlone] using h.balance
  refine ⟨?_, ?_, ?_, ?_, hbal, ?_⟩
  · have := h.fits
    simp; omega
  · rw [countP_names, namedKeys_append, namedKeys_forgetButton, namedButtons_append, hbuttons]
    simp [HoldItem.namedKey, HoldItem.namedButton]
    omega
  · simpa [HoldItem.namedKey] using h.keys
  · rw [namedButtons_append, hbuttons]
    simpa [HoldItem.namedButton] using h.buttons.erase new
  · exact fun u => ((h.covered u).forgetButton b).snoc (hbal u).le

/-- The record of a settled release changes nothing but the length (R15). -/
theorem settled (h : QueueOk es bs c q r) {i : HoldItem}
    (hi : (∃ p k t, i = .keyUp p k t true) ∨ ∃ b, i = .buttonUp b true)
    (room : q.length + r + 1 ≤ 32) : QueueOk es bs c (q ++ [i]) r := by
  obtain ⟨hkey, hbutton, hnames, hrel, halone⟩ : i.namedKey = none ∧ i.namedButton = none ∧
      i.names = false ∧ (∀ u, i.releases u = false) ∧ ∀ u, i.pressesAlone u = false := by
    rcases hi with ⟨p, k, t, rfl⟩ | ⟨b, rfl⟩ <;> simp [HoldItem.namedKey, HoldItem.namedButton,
      HoldItem.names, HoldItem.releases, HoldItem.pressesAlone]
  have hbal : ∀ u, relCount u (q ++ [i]) = aloneCount u (q ++ [i]) := by
    simpa [hrel, halone] using h.balance
  refine ⟨by simp; omega, by simp [h.reserved, hnames], ?_, ?_, hbal, ?_⟩
  · simpa [hkey] using h.keys
  · simpa [hbutton] using h.buttons
  · exact fun u => (h.covered u).snoc (hbal u).le

/-- A tap joins as a press and its release (R35). -/
theorem tap (h : QueueOk es bs c q r) (p : Port) (k t : Code) (room : q.length + r + 2 ≤ 32) :
    QueueOk es bs c (q ++ [.keyDown p k t false] ++ [.keyUp p k t false]) r := by
  have hbal : ∀ u, relCount u (q ++ [.keyDown p k t false] ++ [.keyUp p k t false]) =
      aloneCount u (q ++ [.keyDown p k t false] ++ [.keyUp p k t false]) := fun u => by
    simp [h.balance u, HoldItem.releases, HoldItem.pressesAlone]
  refine ⟨by simp; omega, by simp [h.reserved, HoldItem.names], ?_, ?_, hbal, fun u => ?_⟩
  · simpa [HoldItem.namedKey] using h.keys
  · simpa [HoldItem.namedButton] using h.buttons
  · refine ((h.covered u).snoc ?_).snoc (hbal u).le
    simp [HoldItem.releases, h.balance u]

end QueueOk

end Sys2Proof.Machine
end

section
/-! What the discipline of held keys and buttons speaks of, as a view of the state, and the discipline over that view
(R11, R28, R38, R128). -/

namespace Sys2Proof.Machine

/-! ## The view -/

/-- The part of the state that the discipline of held keys and buttons speaks of; of the player, the channel it serves
and its pressed set. -/
structure KeyView where
  entries   : List KeyEntry
  counts    : Chan → Counts
  queue     : Chan → List HoldItem
  reserved  : Chan → Nat
  buttons   : Button → Option ButtonTarget
  held      : Chan → Button → Bool
  player    : Option (Chan × List Code)
  attention : Attention

/-- What a player contributes by. -/
def Player.served (pl : Player) : Chan × List Code := (pl.chan, pl.pressed)

def State.view (s : State) : KeyView where
  entries := s.router.entries
  counts := s.counts
  queue c := (s.link c).queue
  reserved c := (s.link c).reserved
  buttons := nth s.pointer.buttons
  held c := nth (s.held c)
  player := s.player.map Player.served
  attention := s.attention

/-- What the player adds to the count of code k on channel c. -/
def playerHolds (pl : Option (Chan × List Code)) (c : Chan) (k : Code) : Nat :=
  match pl with
  | none => 0
  | some pl => if pl.1 = c ∧ k ∈ pl.2 then 1 else 0

theorem contributors_eq (s : State) (c : Chan) (k : Code) :
    contributors s c k = heldBy s.view.entries c k + playerHolds s.view.player c k := by
  unfold contributors State.view playerHolds
  cases s.player <;> rfl

/-- The discipline of held keys but for what it says of ports and of a withheld tap. -/
structure KeyView.Core (v : KeyView) : Prop where
  sorted : Sorted v.entries
  canonical : ∀ c, (v.counts c).Canonical
  queues : ∀ c, QueueOk v.entries v.buttons c (v.queue c) (v.reserved c)
  player : ∀ pl, v.player = some pl → pl.2.Nodup
  counts : ∀ c k, countOf k (v.counts c) = heldBy v.entries c k + playerHolds v.player c k

/-- The withheld tap's entry is PENDING_TAP (R51). -/
def KeyView.TapKept (v : KeyView) : Prop :=
  ∀ k p, v.attention = .tapDown k p → ⟨p, k, .pendingTap⟩ ∈ v.entries

/-- What the discipline says of the ports: entries are of keys and buttons of the last report of their port. -/
structure PortsSound (s : State) : Prop where
  ports : ∀ p, (s.keyPort p).state ≠ .active → (s.keyPort p).last = []
  keys : ∀ e ∈ s.router.entries, e.code ∈ (s.keyPort e.port).last
  pointer : s.console.ptr.state ≠ .active → s.console.ptr.last = noButtons
  buttons : ∀ b, nth s.pointer.buttons b ≠ none → nth s.console.ptr.last b = true

theorem keysSound_iff (s : State) :
    KeysSound s ↔ s.view.Core ∧ s.view.TapKept ∧ PortsSound s := by
  unfold KeysSound
  constructor
  · rintro ⟨sorted, canonical, ports, keys, tap, pointer, buttons, queues, player, counts⟩
    refine ⟨⟨sorted, canonical, fun c => (queueSound_iff s c).1 (queues c), fun pl h => ?_,
      fun c k => (counts c k).trans (contributors_eq s c k)⟩, tap, ⟨ports, keys, pointer, buttons⟩⟩
    obtain ⟨p, hp, rfl⟩ := Option.map_eq_some_iff.1 h
    exact player p hp
  · rintro ⟨⟨sorted, canonical, queues, player, counts⟩, tap, ⟨ports, keys, pointer, buttons⟩⟩
    exact ⟨sorted, canonical, ports, keys, tap, pointer, buttons,
      fun c => (queueSound_iff s c).2 (queues c),
      fun pl h => player pl.served (by simp [State.view, h]),
      fun c k => (counts c k).trans (contributors_eq s c k).symm⟩

/-! ## Button states (R128) -/

/-- What one button's state on channel c, its entry and the channel's queue have to do with each other (R128). -/
structure ButtonOk (b : Button) (c : Chan) (held : Bool) (q : List HoldItem)
    (t : Option ButtonTarget) : Prop where
  state : held = true ↔ t = some (.channel c .delivered)
  drained : q.foldl (HoldItem.buttonAfter b) held = true ↔
    t = some (.channel c .delivered) ∨ t = some (.channel c .queued)
  quiet : t = some (.channel c .delivered) → ∀ i ∈ q, i.changesButton b = false

/-- The button states of every channel (R128). -/
def KeyView.ButtonsOk (v : KeyView) : Prop :=
  ∀ c b, ButtonOk b c (v.held c b) (v.queue c) (v.buttons b)

theorem buttonsSound_iff (s : State) : ButtonsSound s ↔ s.view.ButtonsOk := by
  refine forall_congr' fun c => forall_congr' fun b => ?_
  exact ⟨fun ⟨h1, h2, h3⟩ => ⟨h1, h2, h3⟩, fun ⟨h1, h2, h3⟩ => ⟨h1, h2, h3⟩⟩

/-- An item that leaves a button's state as it is. -/
theorem HoldItem.buttonAfter_of_quiet {b : Button} {i : HoldItem} (h : i.changesButton b = false)
    (down : Bool) : i.buttonAfter b down = down := by
  cases i <;> simp_all [buttonAfter, changesButton, imp_iff_not_or]

theorem foldl_buttonAfter_of_quiet {b : Button} {q : List HoldItem}
    (h : ∀ i ∈ q, i.changesButton b = false) (down : Bool) :
    q.foldl (HoldItem.buttonAfter b) down = down := by
  induction q generalizing down with
  | nil => rfl
  | cons i q ih =>
    rw [List.foldl_cons, HoldItem.buttonAfter_of_quiet (h i (by simp))]
    exact ih (fun j hj => h j (by simp [hj])) down

/-- A map of a queue that changes no button's state. -/
theorem foldl_buttonAfter_map {b : Button} {f : HoldItem → HoldItem}
    (hf : ∀ i down, (f i).buttonAfter b down = i.buttonAfter b down) (q : List HoldItem)
    (down : Bool) : (q.map f).foldl (HoldItem.buttonAfter b) down =
      q.foldl (HoldItem.buttonAfter b) down := by
  simp only [List.foldl_map, hf]

theorem HoldItem.buttonAfter_forgetKey (b : Button) (p : Port) (k : Code) (i : HoldItem)
    (down : Bool) : (i.forgetKey p k).buttonAfter b down = i.buttonAfter b down := by
  cases i <;> rfl

theorem HoldItem.buttonAfter_forgetButton (b d : Button) (i : HoldItem) (down : Bool) :
    (i.forgetButton d).buttonAfter b down = i.buttonAfter b down := by cases i <;> rfl

theorem HoldItem.changesButton_forgetKey (b : Button) (p : Port) (k : Code) (i : HoldItem) :
    (i.forgetKey p k).changesButton b = i.changesButton b := by cases i <;> rfl

theorem HoldItem.changesButton_forgetButton (b d : Button) (i : HoldItem) :
    (i.forgetButton d).changesButton b = i.changesButton b := by cases i <;> rfl

namespace ButtonOk

variable {b : Button} {c : Chan} {held : Bool} {q q' : List HoldItem} {t t' : Option ButtonTarget}

/-- A button's target elsewhere than on channel c is all one to channel c. -/
theorem elsewhere (h : ButtonOk b c held q t)
    (ht : ∀ st, t' = some (.channel c st) ↔ t = some (.channel c st)) :
    ButtonOk b c held q t' where
  state := by rw [ht]; exact h.state
  drained := by rw [ht, ht]; exact h.drained
  quiet := by rw [ht]; exact h.quiet

/-- An item that leaves the button alone may join. -/
theorem snoc (h : ButtonOk b c held q t) {i : HoldItem} (hi : i.changesButton b = false) :
    ButtonOk b c held (q ++ [i]) t where
  state := h.state
  drained := by
    rw [List.foldl_append, List.foldl_cons, HoldItem.buttonAfter_of_quiet hi]
    exact h.drained
  quiet ht j hj := by
    rcases List.mem_append.1 hj with hj | hj
    · exact h.quiet ht j hj
    · exact List.mem_singleton.1 hj ▸ hi

theorem map (h : ButtonOk b c held q t) {f : HoldItem → HoldItem}
    (hf : ∀ i down, (f i).buttonAfter b down = i.buttonAfter b down)
    (hc : ∀ i : HoldItem, (f i).changesButton b = i.changesButton b) :
    ButtonOk b c held (q.map f) t where
  state := h.state
  drained := by rw [foldl_buttonAfter_map hf]; exact h.drained
  quiet ht j hj := by
    obtain ⟨i, hi, rfl⟩ := List.mem_map.1 hj
    rw [hc]
    exact h.quiet ht i hi

/-- An emptied queue, where the button is not QUEUED on its channel. -/
theorem emptied (h : held = true ↔ t = some (.channel c .delivered))
    (ht : t ≠ some (.channel c .queued)) : ButtonOk b c held [] t where
  state := h
  drained := by simp [h, ht]
  quiet _ i hi := by cases hi

end ButtonOk

/-! ## Both together -/

/-- The discipline of held keys, and, where `B` asks for it, that of the button states. -/
structure KeyView.Sound (B : Prop) (v : KeyView) : Prop where
  core : v.Core
  tap : v.TapKept
  buttons : B → v.ButtonsOk

end Sys2Proof.Machine
end

section
/-! The elementary changes of held keys and the player, each keeping the discipline (R11, R28, R36, R38, R39). -/

namespace Sys2Proof.Machine

/-! ## Counts keep their form (R38) -/

theorem mem_countUp {k : Code} {m : Counts} {a : Code × Nat} (h : a ∈ countUp k m) :
    a.1 = k ∨ ∃ b ∈ m, b.1 = a.1 := by
  induction m with
  | nil => simp_all [countUp]
  | cons b m ih =>
    unfold countUp at h
    split at h
    · rcases List.mem_cons.1 h with rfl | h
      · exact .inl rfl
      · exact .inr ⟨a, h, rfl⟩
    · split at h
      · rcases List.mem_cons.1 h with rfl | h
        · exact .inr ⟨b, by simp, rfl⟩
        · exact .inr ⟨a, by simp [h], rfl⟩
      · rcases List.mem_cons.1 h with rfl | h
        · exact .inr ⟨_, by simp, rfl⟩
        · exact (ih h).imp_right fun ⟨b, hb, e⟩ => ⟨b, by simp [hb], e⟩

theorem mem_countDown {k : Code} {m : Counts} {a : Code × Nat} (h : a ∈ countDown k m) :
    ∃ b ∈ m, b.1 = a.1 := by
  induction m with
  | nil => cases h
  | cons b m ih =>
    unfold countDown at h
    split at h
    · exact ⟨a, h, rfl⟩
    · split at h
      · split at h
        · exact ⟨a, by simp [h], rfl⟩
        · rcases List.mem_cons.1 h with rfl | h
          · exact ⟨b, by simp, rfl⟩
          · exact ⟨a, by simp [h], rfl⟩
      · rcases List.mem_cons.1 h with rfl | h
        · exact ⟨_, by simp, rfl⟩
        · exact (ih h).imp fun b ⟨hb, e⟩ => ⟨by simp [hb], e⟩

theorem Counts.Canonical.cons {a : Code × Nat} {m : Counts} :
    Counts.Canonical (a :: m) ↔ (∀ b ∈ m, a.1 < b.1) ∧ 1 ≤ a.2 ∧ Counts.Canonical m := by
  simp only [Counts.Canonical, List.pairwise_cons, List.forall_mem_cons]
  tauto

theorem Counts.Canonical.countUp {m : Counts} (h : m.Canonical) (k : Code) :
    Counts.Canonical (countUp k m) := by
  induction m with
  | nil => simp [Machine.countUp, Counts.Canonical]
  | cons a m ih =>
    obtain ⟨hlt, hn, hm⟩ := Counts.Canonical.cons.1 h
    unfold Machine.countUp
    split
    · rename_i hk
      refine Counts.Canonical.cons.2 ⟨fun b hb => ?_, le_rfl, h⟩
      rcases List.mem_cons.1 hb with rfl | hb
      · exact hk
      · exact lt_trans hk (hlt b hb)
    · split
      · exact Counts.Canonical.cons.2 ⟨hlt, by omega, hm⟩
      · refine Counts.Canonical.cons.2 ⟨fun b hb => ?_, hn, ih hm⟩
        rcases mem_countUp hb with hb | ⟨d, hd, hb⟩
        · show a.1 < b.1
          rw [hb]
          exact lt_of_le_of_ne (not_lt.1 ‹_›) (Ne.symm ‹_›)
        · exact hb ▸ hlt d hd

theorem Counts.Canonical.countDown {m : Counts} (h : m.Canonical) (k : Code) :
    Counts.Canonical (countDown k m) := by
  induction m with
  | nil => exact h
  | cons a m ih =>
    obtain ⟨hlt, hn, hm⟩ := Counts.Canonical.cons.1 h
    unfold Machine.countDown
    split
    · exact h
    · split
      · split
        · exact hm
        · exact Counts.Canonical.cons.2 ⟨hlt, by omega, hm⟩
      · refine Counts.Canonical.cons.2 ⟨fun b hb => ?_, hn, ih hm⟩
        obtain ⟨d, hd, hb⟩ := mem_countDown hb
        exact hb ▸ hlt d hd

/-- The listed codes are those with a count of at least 1. -/
theorem mem_map_fst_iff_countOf {m : Counts} (h : m.Canonical) (k : Code) :
    k ∈ m.map (·.1) ↔ 1 ≤ countOf k m := by
  induction m with
  | nil => simp [countOf]
  | cons a m ih =>
    obtain ⟨hlt, hn, hm⟩ := Counts.Canonical.cons.1 h
    obtain ⟨j, n⟩ := a
    rw [List.map_cons, List.mem_cons, ih hm]
    rcases Nat.lt_trichotomy k j with hk | rfl | hk
    · have h0 : countOf k m = 0 := countOf_of_lt fun b hb => lt_trans hk (hlt b hb)
      simp [countOf, hk, hk.ne, h0]
    · simpa [countOf] using hn
    · simp [countOf, not_lt_of_gt hk, hk.ne']

/-! ## Writing the view -/

namespace KeyView

def setEntries (v : KeyView) (es : List KeyEntry) : KeyView := { v with entries := es }

def setPlayer (v : KeyView) (pl : Option (Chan × List Code)) : KeyView := { v with player := pl }

def setCounts (v : KeyView) (c : Chan) (m : Counts) : KeyView :=
  { v with counts := Function.update v.counts c m }

def setQueue (v : KeyView) (c : Chan) (q : List HoldItem) (r : Nat) : KeyView :=
  { v with queue := Function.update v.queue c q, reserved := Function.update v.reserved c r }

def setButton (v : KeyView) (b : Button) (t : Option ButtonTarget) : KeyView :=
  { v with buttons := Function.update v.buttons b t }

def setHeld (v : KeyView) (c : Chan) (b : Button) (down : Bool) : KeyView :=
  { v with held := Function.update v.held c (Function.update (v.held c) b down) }

section Reading

variable (v : KeyView) (es : List KeyEntry) (pl : Option (Chan × List Code)) (c : Chan) (m : Counts)
  (q : List HoldItem) (r : Nat)

@[simp] theorem entries_setEntries : (v.setEntries es).entries = es := rfl
@[simp] theorem counts_setEntries : (v.setEntries es).counts = v.counts := rfl
@[simp] theorem queue_setEntries : (v.setEntries es).queue = v.queue := rfl
@[simp] theorem reserved_setEntries : (v.setEntries es).reserved = v.reserved := rfl
@[simp] theorem buttons_setEntries : (v.setEntries es).buttons = v.buttons := rfl
@[simp] theorem player_setEntries : (v.setEntries es).player = v.player := rfl
@[simp] theorem attention_setEntries : (v.setEntries es).attention = v.attention := rfl
@[simp] theorem entries_setCounts : (v.setCounts c m).entries = v.entries := rfl
@[simp] theorem queue_setCounts : (v.setCounts c m).queue = v.queue := rfl
@[simp] theorem reserved_setCounts : (v.setCounts c m).reserved = v.reserved := rfl
@[simp] theorem player_setCounts : (v.setCounts c m).player = v.player := rfl
@[simp] theorem entries_setQueue : (v.setQueue c q r).entries = v.entries := rfl
@[simp] theorem counts_setQueue : (v.setQueue c q r).counts = v.counts := rfl
@[simp] theorem player_setQueue : (v.setQueue c q r).player = v.player := rfl
@[simp] theorem entries_setPlayer : (v.setPlayer pl).entries = v.entries := rfl
@[simp] theorem counts_setPlayer : (v.setPlayer pl).counts = v.counts := rfl
@[simp] theorem queue_setPlayer : (v.setPlayer pl).queue = v.queue := rfl
@[simp] theorem reserved_setPlayer : (v.setPlayer pl).reserved = v.reserved := rfl
@[simp] theorem player_setPlayer : (v.setPlayer pl).player = pl := rfl

@[simp] theorem counts_setCounts : (v.setCounts c m).counts c = m := by simp [setCounts]

@[simp] theorem queue_setQueue : (v.setQueue c q r).queue c = q := by simp [setQueue]

@[simp] theorem reserved_setQueue : (v.setQueue c q r).reserved c = r := by simp [setQueue]

@[simp] theorem setCounts_setCounts (m' : Counts) :
    (v.setCounts c m).setCounts c m' = v.setCounts c m' := by simp [setCounts]

@[simp] theorem setQueue_setQueue (q' : List HoldItem) (r' : Nat) :
    (v.setQueue c q r).setQueue c q' r' = v.setQueue c q' r' := by simp [setQueue]

@[simp] theorem setEntries_setEntries (es' : List KeyEntry) :
    (v.setEntries es).setEntries es' = v.setEntries es' := rfl

@[simp] theorem setEntries_self : v.setEntries v.entries = v := rfl

/-- Writes of different parts are put in one order: the table first. -/
@[simp] theorem setEntries_setCounts :
    (v.setCounts c m).setEntries es = (v.setEntries es).setCounts c m := rfl

@[simp] theorem setEntries_setQueue :
    (v.setQueue c q r).setEntries es = (v.setEntries es).setQueue c q r := rfl

@[simp] theorem setPlayer_setCounts :
    (v.setCounts c m).setPlayer pl = (v.setPlayer pl).setCounts c m := rfl

@[simp] theorem setQueue_self : v.setQueue c (v.queue c) (v.reserved c) = v := by
  simp [setQueue]

end Reading

end KeyView

/-! ## Membership after a swap -/

/-- A target that contributes to no count and waits in no queue. -/
def Idle (x : Option KeyTarget) : Prop := ∀ c t st, x ≠ some (.channel c (some t) st)

/-- Where neither target waits in a queue of channel c, the entries that do are the same. -/
theorem Swap.queued_iff {p : Port} {k : Code} {x y : Option KeyTarget} {es es' : List KeyEntry}
    (h : Swap p k x y es es') {c : Chan}
    (hx : ∀ t, x ≠ some (.channel c (some t) .queued))
    (hy : ∀ t, y ≠ some (.channel c (some t) .queued)) (q : Port) (j t : Code) :
    ⟨q, j, .channel c (some t) .queued⟩ ∈ es' ↔ ⟨q, j, .channel c (some t) .queued⟩ ∈ es := by
  by_cases he : q = p ∧ j = k
  · obtain ⟨rfl, rfl⟩ := he
    rw [h.mem_new, h.mem_old]
    simp [hx, hy]
  · exact h.mem_other he

/-- The entries that wait once the pair's entry does. -/
theorem Swap.queued_join {p : Port} {k t : Code} {c : Chan} {x : Option KeyTarget}
    {es es' : List KeyEntry} (h : Swap p k x (some (.channel c (some t) .queued)) es es')
    (hx : Idle x) (q : Port) (j u : Code) :
    ⟨q, j, .channel c (some u) .queued⟩ ∈ es' ↔
      ⟨q, j, .channel c (some u) .queued⟩ ∈ es ∨ (q, j, u) = (p, k, t) := by
  by_cases he : q = p ∧ j = k
  · obtain ⟨rfl, rfl⟩ := he
    rw [h.mem_new, h.mem_old]
    simp [hx c u, eq_comm]
  · have hne : (q, j, u) ≠ (p, k, t) := fun e => he (by simp_all)
    rw [h.mem_other (e := ⟨q, j, _⟩) he]
    simp [hne]

/-- The entries that wait once the pair's entry does no more. -/
theorem Swap.queued_unjoin {p : Port} {k t : Code} {c : Chan} {y : Option KeyTarget}
    {es es' : List KeyEntry} (h : Swap p k (some (.channel c (some t) .queued)) y es es')
    (hy : ∀ u, y ≠ some (.channel c (some u) .queued)) (q : Port) (j u : Code) :
    ⟨q, j, .channel c (some u) .queued⟩ ∈ es' ↔
      ⟨q, j, .channel c (some u) .queued⟩ ∈ es ∧ (q, j, u) ≠ (p, k, t) := by
  by_cases he : q = p ∧ j = k
  · obtain ⟨rfl, rfl⟩ := he
    rw [h.mem_new, h.mem_old]
    simp [hy u, eq_comm]
  · have hne : (q, j, u) ≠ (p, k, t) := fun e => he (by simp_all)
    rw [h.mem_other (e := ⟨q, j, _⟩) he]
    simp [hne]

/-- Where neither target is DELIVERED, no code has more or fewer contributors. -/
theorem Swap.heldBy_same {p : Port} {k : Code} {x y : Option KeyTarget} {es es' : List KeyEntry}
    (h : Swap p k x y es es') (hx : ∀ c t, x ≠ some (.channel c (some t) .delivered))
    (hy : ∀ c t, y ≠ some (.channel c (some t) .delivered)) (c : Chan) (t : Code) :
    Machine.heldBy es' c t = Machine.heldBy es c t := by
  simpa [contributes, hx c t, hy c t] using h.heldBy c t

namespace KeyView.Core

variable {v : KeyView} {p : Port} {k t : Code} {c : Chan} {x y : Option KeyTarget}
  {es' : List KeyEntry}

/-- A target that did nothing is replaced by another such. -/
theorem swapIdle (h : v.Core) (sw : Swap p k x y v.entries es') (hs : Sorted es') (hx : Idle x)
    (hy : Idle y) : KeyView.Core (v.setEntries es') where
  sorted := hs
  canonical := h.canonical
  queues d := (h.queues d).congr (sw.queued_iff (fun t => hx d t _) fun t => hy d t _)
    fun _ => Iff.rfl
  player := h.player
  counts d j := by
    show _ = Machine.heldBy es' d j + _
    rw [sw.heldBy_same (fun c t => hx c t _) fun c t => hy c t _]
    exact h.counts d j

/-- A key becomes DELIVERED and its code's count rises (R28, R38). -/
theorem deliver (h : v.Core)
    (sw : Swap p k x (some (.channel c (some t) .delivered)) v.entries es') (hs : Sorted es')
    (hx : Idle x) :
    (KeyView.setCounts (v.setEntries es') c (countUp t (v.counts c))).Core where
  sorted := hs
  canonical d := by
    by_cases hd : d = c
    · subst hd; simpa [KeyView.setCounts] using (h.canonical d).countUp t
    · simpa [KeyView.setCounts, hd] using h.canonical d
  queues d := (h.queues d).congr (sw.queued_iff (fun t => hx d t _) (by simp)) fun _ => Iff.rfl
  player := h.player
  counts d j := by
    have hb := sw.heldBy d j
    have hc := h.counts d j
    simp only [contributes, hx d j, if_false, Nat.add_zero] at hb
    simp only [KeyView.setCounts, KeyView.setEntries, hb]
    by_cases hd : d = c
    · subst hd
      rw [Function.update_self, countOf_countUp]
      by_cases hj : j = t
      · subst hj; simp; omega
      · simp [hj, Ne.symm hj]; omega
    · rw [Function.update_of_ne hd, if_neg (by simp [Ne.symm hd])]
      omega

/-- A DELIVERED key stops contributing and its code's count falls (R36, R38). -/
theorem undeliver (h : v.Core)
    (sw : Swap p k (some (.channel c (some t) .delivered)) y v.entries es') (hs : Sorted es')
    (hy : Idle y) :
    (KeyView.setCounts (v.setEntries es') c (countDown t (v.counts c))).Core where
  sorted := hs
  canonical d := by
    by_cases hd : d = c
    · subst hd; simpa [KeyView.setCounts] using (h.canonical d).countDown t
    · simpa [KeyView.setCounts, hd] using h.canonical d
  queues d := (h.queues d).congr (sw.queued_iff (by simp) fun t => hy d t _) fun _ => Iff.rfl
  player := h.player
  counts d j := by
    have hb := sw.heldBy d j
    have hc := h.counts d j
    simp only [contributes, hy d j, if_false, Nat.add_zero] at hb
    simp only [KeyView.setCounts, KeyView.setEntries]
    by_cases hd : d = c
    · subst hd
      rw [Function.update_self, countOf_countDown (h.canonical d)]
      by_cases hj : j = t
      · subst hj; simp at hb ⊢; omega
      · simp [Ne.symm hj] at hb; simp [hj]; omega
    · rw [Function.update_of_ne hd]
      rw [if_neg (by simp [Ne.symm hd])] at hb
      omega

/-- A queue's own change, where the other queues rest on entries that stand as they did. -/
theorem queues_setQueue {bs' : Button → Option ButtonTarget} (h : v.Core) {q : List HoldItem}
    {r : Nat} (hq : QueueOk es' bs' c q r)
    (hes : ∀ d, d ≠ c → ∀ p k t, ⟨p, k, .channel d (some t) .queued⟩ ∈ es' ↔
      ⟨p, k, .channel d (some t) .queued⟩ ∈ v.entries)
    (hbs : ∀ d, d ≠ c → ∀ b, bs' b = some (.channel d .queued) ↔
      v.buttons b = some (.channel d .queued)) (d : Chan) :
    QueueOk es' bs' d (Function.update v.queue c q d) (Function.update v.reserved c r d) := by
  by_cases hd : d = c
  · subst hd; simpa using hq
  · rw [Function.update_of_ne hd, Function.update_of_ne hd]
    exact (h.queues d).congr (hes d hd) (hbs d hd)

/-- A key becomes QUEUED as its press joins the queue (R13, R28). -/
theorem joinKey (h : v.Core)
    (sw : Swap p k x (some (.channel c (some t) .queued)) v.entries es') (hs : Sorted es')
    (hx : Idle x) {i : HoldItem} (hi : i = .keyDown p k t true ∨ i = .modHandover p k t true)
    (room : (v.queue c).length + v.reserved c + 2 ≤ 32) :
    (KeyView.setQueue (v.setEntries es') c (v.queue c ++ [i]) (v.reserved c + 1)).Core where
  sorted := hs
  canonical := h.canonical
  queues := h.queues_setQueue
    ((h.queues c).joinKey hi room (fun u hu => hx c u _ (sw.mem_old.1 hu)) (sw.queued_join hx))
    (fun d hd => sw.queued_iff (fun t => hx d t _) (by simp [Ne.symm hd])) fun _ _ _ => Iff.rfl
  player := h.player
  counts d j := by
    show _ = Machine.heldBy es' d j + _
    rw [sw.heldBy_same (fun c t => hx c t _) (by simp)]
    exact h.counts d j

/-- A QUEUED key stops waiting as its release joins the queue (R14, R16). -/
theorem unjoinKey (h : v.Core)
    (sw : Swap p k (some (.channel c (some t) .queued)) y v.entries es') (hs : Sorted es')
    (hy : Idle y) :
    (KeyView.setQueue (v.setEntries es') c
      ((v.queue c).map (HoldItem.forgetKey p k) ++ [.keyUp p k t false])
      (v.reserved c - 1)).Core where
  sorted := hs
  canonical := h.canonical
  queues := h.queues_setQueue
    ((h.queues c).unjoinKey (fun u => by rw [sw.mem_old]; simp [eq_comm]) (sw.queued_unjoin fun u => hy c u _))
    (fun d hd => sw.queued_iff (by simp [Ne.symm hd]) fun t => hy d t _) fun _ _ _ => Iff.rfl
  player := h.player
  counts d j := by
    show _ = Machine.heldBy es' d j + _
    rw [sw.heldBy_same (by simp) fun c t => hy c t _]
    exact h.counts d j

/-- A change of one queue that leaves what it names as it is. -/
theorem setQueue (h : v.Core) {q : List HoldItem} {r : Nat}
    (hq : QueueOk v.entries v.buttons c q r) : (v.setQueue c q r).Core where
  sorted := h.sorted
  canonical := h.canonical
  queues := h.queues_setQueue hq (fun _ _ _ _ _ => Iff.rfl) fun _ _ _ => Iff.rfl
  player := h.player
  counts := h.counts

/-- Counts written anew with the same values. -/
theorem setCounts_same (h : v.Core) {m : Counts} (hm : m.Canonical)
    (hc : ∀ k, countOf k m = countOf k (v.counts c)) : (v.setCounts c m).Core where
  sorted := h.sorted
  canonical d := by
    by_cases hd : d = c
    · subst hd; simpa [KeyView.setCounts] using hm
    · simpa [KeyView.setCounts, hd] using h.canonical d
  queues := h.queues
  player := h.player
  counts d j := by
    by_cases hd : d = c
    · subst hd; simpa [KeyView.setCounts, hc] using h.counts d j
    · simpa [KeyView.setCounts, hd] using h.counts d j

/-! ## The player (R39) -/

theorem addPressed_perm {k : Code} {ks : List Code} (h : k ∉ ks) :
    (addPressed k ks).Perm (k :: ks) := by
  induction ks with
  | nil => exact .refl _
  | cons a ks ih =>
    have hne : k ≠ a := fun e => h (by simp [e])
    unfold addPressed
    rw [if_neg hne]
    split
    · exact .refl _
    · exact ((ih fun hk => h (by simp [hk])).cons a).trans (.swap k a ks)

/-- The player presses a code that it does not hold yet. -/
theorem playerPress (h : v.Core) {ks : List Code} (hp : v.player = some (c, ks)) (hk : k ∉ ks) :
    (KeyView.setCounts (v.setPlayer (some (c, addPressed k ks))) c
      (countUp k (v.counts c))).Core where
  sorted := h.sorted
  canonical d := by
    by_cases hd : d = c
    · subst hd; simpa [KeyView.setCounts] using (h.canonical d).countUp k
    · simpa [KeyView.setCounts, hd] using h.canonical d
  queues := h.queues
  player pl hpl := by
    obtain rfl : (c, addPressed k ks) = pl := by
      simpa [KeyView.setCounts, KeyView.setPlayer] using hpl
    exact (addPressed_perm hk).nodup_iff.2 (List.nodup_cons.2 ⟨hk, h.player _ hp⟩)
  counts d j := by
    have hc := h.counts d j
    simp only [hp, playerHolds] at hc
    simp only [KeyView.setCounts, KeyView.setPlayer, playerHolds, (addPressed_perm hk).mem_iff, List.mem_cons]
    by_cases hd : d = c
    · subst hd
      rw [Function.update_self, countOf_countUp, hc]
      by_cases hj : j = k
      · subst hj; simp [hk]
      · simp [hj]
    · rw [Function.update_of_ne hd, hc]
      simp [Ne.symm hd]

/-- The player releases a code that it holds. -/
theorem playerRelease (h : v.Core) {ks : List Code} (hp : v.player = some (c, ks)) (hk : k ∈ ks) :
    (KeyView.setCounts (v.setPlayer (some (c, ks.filter (· != k)))) c
      (countDown k (v.counts c))).Core where
  sorted := h.sorted
  canonical d := by
    by_cases hd : d = c
    · subst hd; simpa [KeyView.setCounts] using (h.canonical d).countDown k
    · simpa [KeyView.setCounts, hd] using h.canonical d
  queues := h.queues
  player pl hpl := by
    obtain rfl : (c, ks.filter (· != k)) = pl := by
      simpa [KeyView.setCounts, KeyView.setPlayer] using hpl
    exact (h.player _ hp).filter _
  counts d j := by
    have hc := h.counts d j
    simp only [hp, playerHolds] at hc
    simp only [KeyView.setCounts, KeyView.setPlayer, playerHolds, List.mem_filter]
    by_cases hd : d = c
    · subst hd
      rw [Function.update_self, countOf_countDown (h.canonical d), hc]
      by_cases hj : j = k
      · subst hj; simp [hk]
      · simp [hj]
    · rw [Function.update_of_ne hd, hc]
      simp [Ne.symm hd]

theorem canonical_foldl_countDown {m : Counts} (h : m.Canonical) (ks : List Code) :
    Counts.Canonical (ks.foldl (fun m k => countDown k m) m) := by
  induction ks generalizing m with
  | nil => exact h
  | cons k ks ih => exact ih (h.countDown k)

theorem countOf_foldl_countDown {m : Counts} (h : m.Canonical) {ks : List Code} (hks : ks.Nodup)
    (j : Code) : countOf j (ks.foldl (fun m k => countDown k m) m) =
      countOf j m - if j ∈ ks then 1 else 0 := by
  induction ks generalizing m with
  | nil => simp
  | cons k ks ih =>
    obtain ⟨hk, hks⟩ := List.nodup_cons.1 hks
    rw [List.foldl_cons, ih (h.countDown k) hks, countOf_countDown h]
    by_cases hj : j = k
    · subst hj; simp [hk]
    · simp [hj]

/-- The player ends: every code it holds leaves the counts (R92). -/
theorem playerEnd (h : v.Core) {ks : List Code} (hp : v.player = some (c, ks)) :
    (KeyView.setCounts (v.setPlayer none) c
      (ks.foldl (fun m k => countDown k m) (v.counts c))).Core where
  sorted := h.sorted
  canonical d := by
    by_cases hd : d = c
    · subst hd; simpa [KeyView.setCounts] using canonical_foldl_countDown (h.canonical d) ks
    · simpa [KeyView.setCounts, hd] using h.canonical d
  queues := h.queues
  player pl hpl := by simp [KeyView.setCounts, KeyView.setPlayer] at hpl
  counts d j := by
    have hc := h.counts d j
    simp only [hp, playerHolds] at hc
    simp only [KeyView.setCounts, KeyView.setPlayer, playerHolds]
    by_cases hd : d = c
    · subst hd
      rw [Function.update_self, countOf_foldl_countDown (h.canonical d) (h.player _ hp), hc]
      simp
    · rw [Function.update_of_ne hd, hc]
      simp [Ne.symm hd]

/-- The player begins, holding nothing (R88). -/
theorem playerStart (h : v.Core) (hp : v.player = none) (c : Chan) :
    KeyView.Core (v.setPlayer (some (c, []))) where
  sorted := h.sorted
  canonical := h.canonical
  queues := h.queues
  player pl hpl := by
    obtain rfl : (c, []) = pl := by simpa using hpl
    exact List.nodup_nil
  counts d j := by simpa [hp, playerHolds] using h.counts d j

end KeyView.Core

end Sys2Proof.Machine
end

section
/-! The elementary changes of buttons, the drain of a queue (R17), its discard (R18) and the loss of a link (R10), each
keeping the discipline of held keys and of button states. -/

namespace Sys2Proof.Machine

/-! ## Buttons in the discipline of keys -/

namespace KeyView.Core

variable {v : KeyView} {b : Button} {c : Chan} {x : Option ButtonTarget}

/-- A button's target that did not wait in a queue is replaced by another such. -/
theorem setButton (h : v.Core) (hb : ∀ d, v.buttons b ≠ some (.channel d .queued))
    (hx : ∀ d, x ≠ some (.channel d .queued)) : (v.setButton b x).Core :=
  { h with
    queues := fun d => (h.queues d).congr (fun _ _ _ => Iff.rfl) fun e => by
      by_cases he : e = b
      · subst he; simp [KeyView.setButton, hb, hx]
      · simp [KeyView.setButton, he] }

/-- A button becomes QUEUED as its press joins the queue (R13). -/
theorem joinButton (h : v.Core) (hb : ∀ d, v.buttons b ≠ some (.channel d .queued))
    (room : (v.queue c).length + v.reserved c + 2 ≤ 32) :
    ((v.setQueue c (v.queue c ++ [.buttonDown b true]) (v.reserved c + 1)).setButton b
      (some (.channel c .queued))).Core :=
  { h with
    queues := h.queues_setQueue
      ((h.queues c).joinButton room (hb c) fun d => by
        by_cases hd : d = b
        · subst hd; simp [KeyView.setButton]
        · simp [KeyView.setButton, KeyView.setQueue, hd])
      (fun _ _ _ _ _ => Iff.rfl) fun d hd e => by
        by_cases he : e = b
        · subst he; simp [KeyView.setButton, hb, Ne.symm hd]
        · simp [KeyView.setButton, KeyView.setQueue, he] }

/-- A QUEUED button is released as its release joins the queue (R14). -/
theorem unjoinButton (h : v.Core) (hb : v.buttons b = some (.channel c .queued)) :
    ((v.setQueue c ((v.queue c).map (HoldItem.forgetButton b) ++ [.buttonUp b false])
      (v.reserved c - 1)).setButton b none).Core :=
  { h with
    queues := h.queues_setQueue
      ((h.queues c).unjoinButton hb fun d => by
        by_cases hd : d = b
        · subst hd; simp [KeyView.setButton]
        · simp [KeyView.setButton, KeyView.setQueue, hd])
      (fun _ _ _ _ _ => Iff.rfl) fun d hd e => by
        by_cases he : e = b
        · subst he; simp [KeyView.setButton, hb, Ne.symm hd]
        · simp [KeyView.setButton, KeyView.setQueue, he] }

/-- The discipline of keys says nothing of button states. -/
theorem setHeld (h : v.Core) (c : Chan) (b : Button) (down : Bool) : (v.setHeld c b down).Core :=
  { h with }

end KeyView.Core

/-! ## Button states -/

namespace KeyView.ButtonsOk

variable {v w : KeyView} {b : Button} {c : Chan} {q : List HoldItem} {r : Nat}

/-- A change of one queue that suits each button. -/
theorem setQueue (h : v.ButtonsOk)
    (hq : ∀ b, ButtonOk b c (v.held c b) q (v.buttons b)) : (v.setQueue c q r).ButtonsOk := by
  intro d e
  by_cases hd : d = c
  · subst hd; simpa [KeyView.setQueue] using hq e
  · simpa [KeyView.setQueue, hd] using h d e

/-- An item that changes no button joins a queue. -/
theorem snoc (h : v.ButtonsOk) {i : HoldItem} (hi : ∀ b, i.changesButton b = false) :
    (v.setQueue c (v.queue c ++ [i]) r).ButtonsOk :=
  h.setQueue fun b => (h c b).snoc (hi b)

/-- The release of a QUEUED key joins a queue. -/
theorem unjoinKey (h : v.ButtonsOk) (p : Port) (k t : Code) :
    (v.setQueue c ((v.queue c).map (HoldItem.forgetKey p k) ++ [.keyUp p k t false])
      r).ButtonsOk :=
  h.setQueue fun b => ((h c b).map (HoldItem.buttonAfter_forgetKey b p k)
    (HoldItem.changesButton_forgetKey b p k)).snoc rfl

/-- One button's target and state on channel c and the queue of channel c change, the target's other channels not. -/
theorem change (h : v.ButtonsOk) {x : Option ButtonTarget} {down : Bool}
    (hb : ButtonOk b c down q x)
    (hother : ∀ d, d ≠ b → ButtonOk d c (v.held c d) q (v.buttons d))
    (hx : ∀ d, d ≠ c → ∀ st, x = some (.channel d st) ↔ v.buttons b = some (.channel d st)) :
    (((v.setQueue c q r).setHeld c b down).setButton b x).ButtonsOk := by
  intro d e
  by_cases hd : d = c <;> by_cases he : e = b
  · subst hd he
    simpa [KeyView.setButton, KeyView.setHeld, KeyView.setQueue] using hb
  · subst hd
    simpa [KeyView.setButton, KeyView.setHeld, KeyView.setQueue, he] using hother e he
  · subst he
    simpa [KeyView.setButton, KeyView.setHeld, KeyView.setQueue, hd] using
      (h d e).elsewhere (hx d hd)
  · simpa [KeyView.setButton, KeyView.setHeld, KeyView.setQueue, hd, he] using h d e

theorem setHeld_of_eq {down : Bool} (h : v.held c b = down) : v.setHeld c b down = v := by
  simp [KeyView.setHeld, ← h]

/-- A button's state is what its entry says. -/
theorem held_eq_false (h : v.ButtonsOk) (hb : v.buttons b ≠ some (.channel c .delivered)) :
    v.held c b = false := by
  simpa using mt (h c b).state.1 hb

/-- A target that is no channel's is replaced by another such. -/
theorem setButton (h : v.ButtonsOk) {x : Option ButtonTarget}
    (hb : ∀ d st, v.buttons b ≠ some (.channel d st))
    (hx : ∀ d st, x ≠ some (.channel d st)) : (v.setButton b x).ButtonsOk := by
  intro d e
  by_cases he : e = b
  · subst he
    simpa [KeyView.setButton] using (h d e).elsewhere (t' := x) fun st => by simp [hb, hx]
  · simpa [KeyView.setButton, he] using h d e

/-- A press delivered on a channel whose queue is empty (R128). -/
theorem deliver (h : v.ButtonsOk) (hb : ∀ d st, v.buttons b ≠ some (.channel d st))
    (hq : v.queue c = []) :
    ((v.setHeld c b true).setButton b (some (.channel c .delivered))).ButtonsOk := by
  have := h.change (r := v.reserved c) (q := v.queue c) (x := some (.channel c .delivered))
    (down := true) (b := b) (c := c) (hq ▸ .emptied (by simp) (by simp)) (fun d _ => h c d)
    fun d hd st => by simp [hb, Ne.symm hd]
  rwa [KeyView.setQueue_self] at this

/-- A press joins the queue (R128). -/
theorem join (h : v.ButtonsOk) (hb : ∀ d st, v.buttons b ≠ some (.channel d st)) :
    ((v.setQueue c (v.queue c ++ [.buttonDown b true]) r).setButton b
      (some (.channel c .queued))).ButtonsOk := by
  have hf := h.held_eq_false (c := c) (hb c _)
  have := h.change (r := r) (q := v.queue c ++ [.buttonDown b true]) (down := false)
    (x := some (.channel c .queued)) (b := b) (c := c)
    ⟨by simp, by simp [HoldItem.buttonAfter], by simp⟩
    (fun d hd => (h c d).snoc (by simpa [HoldItem.changesButton] using Ne.symm hd))
    fun d hd st => by simp [hb, Ne.symm hd]
  rwa [setHeld_of_eq (v := v.setQueue c _ r) hf] at this

/-- The release of a QUEUED button joins the queue (R128). -/
theorem unjoin (h : v.ButtonsOk) (hb : v.buttons b = some (.channel c .queued)) :
    ((v.setQueue c ((v.queue c).map (HoldItem.forgetButton b) ++ [.buttonUp b false])
      r).setButton b none).ButtonsOk := by
  have hf := h.held_eq_false (b := b) (c := c) (by simp [hb])
  have := h.change (r := r) (down := false) (x := none) (b := b) (c := c)
    (q := (v.queue c).map (HoldItem.forgetButton b) ++ [.buttonUp b false])
    ⟨by simp, by simp [HoldItem.buttonAfter], by simp⟩
    (fun d hd => ((h c d).map (HoldItem.buttonAfter_forgetButton d b)
      (HoldItem.changesButton_forgetButton d b)).snoc
        (by simpa [HoldItem.changesButton] using Ne.symm hd))
    fun d hd st => by simp [hb, Ne.symm hd]
  rwa [setHeld_of_eq (v := v.setQueue c _ r) hf] at this

/-- A DELIVERED button is released (R128). -/
theorem undeliver (h : v.ButtonsOk) (hb : v.buttons b = some (.channel c .delivered)) :
    ((v.setHeld c b false).setButton b none).ButtonsOk := by
  have := h.change (r := v.reserved c) (q := v.queue c) (x := none)
    (down := false) (b := b) (c := c)
    ⟨by simp, by rw [foldl_buttonAfter_of_quiet ((h c b).quiet hb)]; simp, by simp⟩
    (fun d _ => h c d) fun d hd st => by simp [hb, Ne.symm hd]
  rwa [KeyView.setQueue_self] at this

end KeyView.ButtonsOk

/-! ## A queue taken apart (R17, R18) -/

/-- While the queue of channel c is taken apart and `q` is left of it: the rest of the discipline. -/
structure KeyView.Unwinding (v : KeyView) (c : Chan) (q : List HoldItem) : Prop where
  sorted : Sorted v.entries
  canonical : ∀ d, (v.counts d).Canonical
  queues : ∀ d, d ≠ c → QueueOk v.entries v.buttons d (v.queue d) (v.reserved d)
  keys : NamesExactly (namedKeys q) fun a =>
    ⟨a.1, a.2.1, .channel c (some a.2.2) .queued⟩ ∈ v.entries
  buttons : NamesExactly (namedButtons q) fun b => v.buttons b = some (.channel c .queued)
  player : ∀ pl, v.player = some pl → pl.2.Nodup

namespace KeyView.Unwinding

variable {v : KeyView} {c : Chan} {q : List HoldItem}

theorem start (h : v.Core) (c : Chan) : v.Unwinding c (v.queue c) :=
  ⟨h.sorted, h.canonical, fun d _ => h.queues d, (h.queues c).keys, (h.queues c).buttons, h.player⟩

/-- Nothing is said of the queue itself. -/
theorem setQueue (h : v.Unwinding c q) (q' : List HoldItem) (r : Nat) :
    (v.setQueue c q' r).Unwinding c q :=
  { h with queues := fun d hd => by simpa [KeyView.setQueue, hd] using h.queues d hd }

theorem setCounts (h : v.Unwinding c q) {d : Chan} {m : Counts} (hm : m.Canonical) :
    (v.setCounts d m).Unwinding c q :=
  { h with
    canonical := fun e => by
      by_cases he : e = d
      · subst he; simpa [KeyView.setCounts] using hm
      · simpa [KeyView.setCounts, he] using h.canonical e }

theorem setHeld (h : v.Unwinding c q) (d : Chan) (b : Button) (down : Bool) :
    (v.setHeld d b down).Unwinding c q := { h with }

/-- An item that names nothing is taken. -/
theorem skip {i : HoldItem} (h : v.Unwinding c (i :: q)) (hk : i.namedKey = none)
    (hb : i.namedButton = none) : v.Unwinding c q :=
  { h with
    keys := by simpa [hk] using h.keys
    buttons := by simpa [hb] using h.buttons }

/-- A press that names a key's entry is taken, and the entry waits no more. -/
theorem takeKey {i : HoldItem} {p : Port} {k t : Code} (h : v.Unwinding c (i :: q))
    (hk : i.namedKey = some (p, k, t)) (hb : i.namedButton = none) {y : KeyTarget}
    (hy : ∀ d u, y ≠ .channel d (some u) .queued) :
    Unwinding (v.setEntries (setTarget p k y v.entries)) c q ∧
      Swap p k (some (.channel c (some t) .queued)) (some y) v.entries
        (setTarget p k y v.entries) := by
  have hkeys := h.keys
  simp only [namedKeys_cons, hk, Option.toList_some, List.singleton_append] at hkeys
  have hmem : ⟨p, k, .channel c (some t) .queued⟩ ∈ v.entries := (hkeys.2 (p, k, t)).1 (by simp)
  have sw := h.sorted.swap_setTarget hmem y
  have hy' : ∀ d u, some y ≠ some (.channel d (some u) .queued) := fun d u e =>
    hy d u (Option.some.inj e)
  refine ⟨{ h with
    sorted := h.sorted.setTarget p k y
    queues := fun d hd => (h.queues d hd).congr
      (sw.queued_iff (by simp [Ne.symm hd]) (hy' d)) fun _ => Iff.rfl
    keys := hkeys.tail fun a => sw.queued_unjoin (hy' c) a.1 a.2.1 a.2.2
    buttons := by simpa [hb] using h.buttons }, sw⟩

/-- A press that names a button's entry is taken, and the entry waits no more. -/
theorem takeButton {b : Button} (h : v.Unwinding c (.buttonDown b true :: q)) {y : ButtonTarget}
    (hy : ∀ d, y ≠ .channel d .queued) :
    v.buttons b = some (.channel c .queued) ∧ (v.setButton b (some y)).Unwinding c q := by
  have hbuttons : NamesExactly (b :: namedButtons q) fun b => v.buttons b = some (.channel c .queued) :=
    h.buttons
  have hb : v.buttons b = some (.channel c .queued) := (hbuttons.2 b).1 (by simp)
  refine ⟨hb, { h with
    queues := fun d hd => (h.queues d hd).congr (fun _ _ _ => Iff.rfl) fun e => ?_
    keys := by simpa [HoldItem.namedKey, KeyView.setButton] using h.keys
    buttons := hbuttons.tail fun e => ?_ }⟩
  · by_cases he : e = b
    · subst he; simp [KeyView.setButton, hb, hy, Ne.symm hd]
    · simp [KeyView.setButton, he]
  · by_cases he : e = b
    · subst he; simp [KeyView.setButton, hy]
    · simp [KeyView.setButton, he]

/-- When nothing is left of the queue, the discipline holds of the emptied queue. -/
theorem finish (h : v.Unwinding c [])
    (hc : ∀ d k, countOf k (v.counts d) = heldBy v.entries d k + playerHolds v.player d k) :
    (v.setQueue c [] 0).Core where
  sorted := h.sorted
  canonical := h.canonical
  queues d := by
    by_cases hd : d = c
    · subst hd
      simpa [KeyView.setQueue] using QueueOk.empty
        (fun p k t => NamesExactly.empty_iff.1 h.keys (p, k, t)) (NamesExactly.empty_iff.1 h.buttons)
    · simpa [KeyView.setQueue, hd] using h.queues d hd
  player := h.player
  counts := hc

end KeyView.Unwinding

end Sys2Proof.Machine
end

section
/-! What a drain (R17), a discard (R18) and a loss of the link (R10) make of the view, and that they keep the discipline. -/

namespace Sys2Proof.Machine

/-! ## Changes that lead from one view to another -/

/-- A change that puts no key and no button into the tables and starts no withheld tap. -/
structure KeyView.Frame (v w : KeyView) : Prop where
  attention : ∀ k p, w.attention = .tapDown k p → v.attention = .tapDown k p
  pairs : ∀ e ∈ w.entries, ∃ a ∈ v.entries, a.at e.port e.code
  buttons : ∀ b, w.buttons b ≠ none → v.buttons b ≠ none

/-- A change of the view that keeps the whole discipline. -/
structure KeyView.Leads (v w : KeyView) : Prop where
  frame : v.Sound False → v.Frame w
  sound : ∀ B, v.Sound B → w.Sound B

theorem KeyView.Frame.refl (v : KeyView) : v.Frame v :=
  ⟨fun _ _ h => h, fun e he => ⟨e, he, rfl, rfl⟩, fun _ h => h⟩

theorem KeyView.Frame.trans {u v w : KeyView} (h : u.Frame v) (k : v.Frame w) : u.Frame w where
  attention j p hj := h.attention j p (k.attention j p hj)
  pairs e he := by
    obtain ⟨a, ha, hae⟩ := k.pairs e he
    obtain ⟨b, hb, hba⟩ := h.pairs a ha
    exact ⟨b, hb, hba.1.trans hae.1, hba.2.trans hae.2⟩
  buttons b hb := h.buttons b (k.buttons b hb)

theorem KeyView.Leads.refl (v : KeyView) : v.Leads v := ⟨fun _ => .refl v, fun _ h => h⟩

theorem KeyView.Leads.trans {u v w : KeyView} (h : u.Leads v) (k : v.Leads w) : u.Leads w :=
  ⟨fun hu => (h.frame hu).trans (k.frame (h.sound False hu)), fun B hB => k.sound B (h.sound B hB)⟩

theorem pairs_setTarget (p : Port) (k : Code) (t : KeyTarget) (es : List KeyEntry) :
    ∀ e ∈ setTarget p k t es, ∃ a ∈ es, a.at e.port e.code := by
  intro e he
  obtain ⟨a, ha, rfl⟩ := List.mem_map.1 he
  refine ⟨a, ha, ?_⟩
  split <;> exact ⟨rfl, rfl⟩

theorem KeyView.Frame.setTarget (v : KeyView) (p : Port) (k : Code) (t : KeyTarget) :
    v.Frame (v.setEntries (setTarget p k t v.entries)) :=
  { KeyView.Frame.refl v with pairs := pairs_setTarget p k t v.entries }

/-- Entries that wait for a tap stand as they did. -/
def PendingKept (es es' : List KeyEntry) : Prop :=
  ∀ p k, ⟨p, k, .pendingTap⟩ ∈ es → ⟨p, k, .pendingTap⟩ ∈ es'

theorem PendingKept.trans {es es' es'' : List KeyEntry} (h : PendingKept es es')
    (k : PendingKept es' es'') : PendingKept es es'' := fun p j hp => k p j (h p j hp)

theorem Swap.pendingKept {p : Port} {k : Code} {x y : Option KeyTarget} {es es' : List KeyEntry}
    (h : Swap p k x y es es') (hx : x ≠ some .pendingTap) : PendingKept es es' := by
  intro q j hq
  by_cases he : q = p ∧ j = k
  · obtain ⟨rfl, rfl⟩ := he
    exact absurd (h.mem_old.1 hq) hx
  · exact (h.mem_other (e := ⟨q, j, _⟩) he).2 hq

theorem KeyView.TapKept.mono {v w : KeyView} (h : v.TapKept)
    (ha : ∀ k p, w.attention = .tapDown k p → v.attention = .tapDown k p)
    (he : PendingKept v.entries w.entries) : w.TapKept :=
  fun k p hk => he p k (h k p (ha k p hk))

/-! ## The drain (R17) -/

/-- The table with a drained press's entry marked DELIVERED (R17, R37). -/
def markEntries (c : Chan) (p : Port) (k : Code) (es : List KeyEntry) : List KeyEntry :=
  match findEntry p k es with
  | some ⟨_, _, .channel d t .queued⟩ =>
    if d = c then setTarget p k (.channel c t .delivered) es else es
  | _ => es

/-- A button's target once a drained press marks it DELIVERED (R17). -/
def markTarget (c : Chan) (t : Option ButtonTarget) : Option ButtonTarget :=
  if t = some (.channel c .queued) then some (.channel c .delivered) else t

/-- What the drain of one item makes of the view (R17). -/
def KeyView.drained (c : Chan) (v : KeyView) (i : HoldItem) : KeyView :=
  match i with
  | .keyDown p k t named | .modHandover p k t named =>
    KeyView.setCounts
      (v.setEntries (if named then markEntries c p k v.entries else v.entries)) c
      (countUp t (v.counts c))
  | .keyUp _ _ t settled => if settled then v else v.setCounts c (countDown t (v.counts c))
  | .buttonDown b named =>
    (v.setHeld c b true).setButton b (if named then markTarget c (v.buttons b) else v.buttons b)
  | .buttonUp b settled => if settled then v else v.setHeld c b false

theorem pairs_markEntries (c : Chan) (p : Port) (k : Code) (es : List KeyEntry) :
    ∀ e ∈ markEntries c p k es, ∃ a ∈ es, a.at e.port e.code := by
  unfold markEntries
  repeat' split
  · exact pairs_setTarget _ _ _ _
  all_goals exact fun e he => ⟨e, he, rfl, rfl⟩

theorem KeyView.setButton_self (v : KeyView) (b : Button) : v.setButton b (v.buttons b) = v := by
  simp [KeyView.setButton]

theorem KeyView.Frame.setButton {v : KeyView} {b : Button} {x : Option ButtonTarget}
    (h : x ≠ none → v.buttons b ≠ none) : v.Frame (v.setButton b x) :=
  { KeyView.Frame.refl v with
    buttons := fun d hd => by
      by_cases he : d = b
      · subst he; exact h (by simpa [KeyView.setButton] using hd)
      · simpa [KeyView.setButton, he] using hd }

theorem KeyView.frame_drained (v : KeyView) (c : Chan) (i : HoldItem) :
    v.Frame (v.drained c i) := by
  have hkey : ∀ p k t (named : Bool), v.Frame (KeyView.setCounts
      (v.setEntries (if named then markEntries c p k v.entries else v.entries)) c
      (countUp t (v.counts c))) := fun p k t named =>
    { KeyView.Frame.refl v with
      pairs := by
        cases named
        · exact fun e he => ⟨e, he, rfl, rfl⟩
        · exact pairs_markEntries c p k v.entries }
  cases i with
  | keyDown p k t named => exact hkey p k t named
  | modHandover p k t named => exact hkey p k t named
  | keyUp p k t settled => cases settled <;> exact { KeyView.Frame.refl v with }
  | buttonUp b settled => cases settled <;> exact { KeyView.Frame.refl v with }
  | buttonDown b named =>
    refine { KeyView.Frame.setButton (v := v) (b := b)
      (x := if named then markTarget c (v.buttons b) else v.buttons b) fun hx hb => hx ?_ with }
    cases named <;> simp [hb, markTarget]

theorem KeyView.queue_drained (v : KeyView) (c : Chan) (i : HoldItem) :
    (v.drained c i).queue = v.queue ∧ (v.drained c i).reserved = v.reserved := by
  rcases i with ⟨_, _, _, _ | _⟩ | ⟨_, _, _, _ | _⟩ | ⟨_, _ | _⟩ | ⟨_, _ | _⟩ | ⟨_, _, _, _ | _⟩ <;>
    exact ⟨rfl, rfl⟩

/-- While a queue is drained and `q` is left of it, `d` counting the presses of their own whose releases are to come. -/
structure KeyView.Draining (v : KeyView) (c : Chan) (q : List HoldItem) (d : Code → Nat) : Prop
    extends v.Unwinding c q where
  balance : ∀ t, relCount t q = aloneCount t q + d t
  covered : ∀ t, Covered t (d t) q
  counts : ∀ e k, countOf k (v.counts e) =
    heldBy v.entries e k + playerHolds v.player e k + if e = c then d k else 0

/-- What the drain of one item owes of a code. -/
def owedAfter (d : Code → Nat) (i : HoldItem) (t : Code) : Nat :=
  d t + (i.pressesAlone t).toNat - (i.releases t).toNat

namespace KeyView.Draining

variable {v : KeyView} {c : Chan} {q : List HoldItem} {d : Code → Nat}

theorem start (h : v.Core) (c : Chan) :
    (v.setQueue c [] 0).Draining c (v.queue c) fun _ => 0 :=
  { KeyView.Unwinding.setQueue (.start h c) [] 0 with
    balance := (h.queues c).balance
    covered := (h.queues c).covered
    counts := fun e k => by simpa [KeyView.setQueue] using h.counts e k }

/-- No release comes before its press. -/
theorem releases_le {i : HoldItem} (h : v.Draining c (i :: q) d) (t : Code) :
    (i.releases t).toNat ≤ d t + (i.pressesAlone t).toNat := by
  have := h.covered t 1
  simp only [List.take_succ_cons, List.take_zero, relCount_cons, aloneCount_cons, relCount_nil,
    aloneCount_nil] at this
  omega

/-- An item is taken: the rest of the discipline, and the counts as they then are. -/
theorem step {i : HoldItem} {w : KeyView} (h : v.Draining c (i :: q) d) (hw : w.Unwinding c q)
    (hc : ∀ e k, countOf k (w.counts e) = heldBy w.entries e k + playerHolds w.player e k +
      if e = c then owedAfter d i k else 0) : w.Draining c q (owedAfter d i) :=
  { hw with
    balance := fun t => by
      have := h.balance t
      have := h.releases_le t
      simp only [relCount_cons, aloneCount_cons, owedAfter] at *
      omega
    covered := fun t => (h.covered t).tail (by
      have := h.releases_le t
      simp only [owedAfter]
      omega)
    counts := hc }

/-- A press of a key's own entry marks it DELIVERED and raises the count (R17). -/
theorem pressNamed {i : HoldItem} {p : Port} {k t : Code}
    (hi : i = .keyDown p k t true ∨ i = .modHandover p k t true) (h : v.Draining c (i :: q) d) :
    (v.drained c i).Draining c q (owedAfter d i) ∧
      PendingKept v.entries (v.drained c i).entries := by
  obtain ⟨hkey, hbutton, hrel, halone, hdrained⟩ : i.namedKey = some (p, k, t) ∧
      i.namedButton = none ∧ (∀ u, i.releases u = false) ∧ (∀ u, i.pressesAlone u = false) ∧
      v.drained c i = KeyView.setCounts (v.setEntries (markEntries c p k v.entries)) c
        (countUp t (v.counts c)) := by
    rcases hi with rfl | rfl <;> simp [HoldItem.namedKey, HoldItem.namedButton,
      HoldItem.releases, HoldItem.pressesAlone, KeyView.drained]
  obtain ⟨hw, sw⟩ := h.toUnwinding.takeKey hkey hbutton (y := .channel c (some t) .delivered)
    (by simp)
  have hmark : markEntries c p k v.entries =
      setTarget p k (.channel c (some t) .delivered) v.entries := by
    simp [markEntries, h.sorted.findEntry_of_mem (sw.mem_old.2 rfl)]
  rw [hdrained, hmark]
  refine ⟨h.step (hw.setCounts ((h.canonical c).countUp t)) fun e j => ?_,
    sw.pendingKept (by simp)⟩
  have hb := sw.heldBy e j
  have hc := h.counts e j
  simp only [contributes, owedAfter, hrel, halone, KeyView.setCounts] at hb hc ⊢
  by_cases he : e = c
  · subst he
    by_cases hj : j = t
    · subst hj; simp [countOf_countUp] at hb hc ⊢; omega
    · simp [countOf_countUp, hj, Ne.symm hj] at hb hc ⊢; omega
  · simp [he, Ne.symm he] at hb hc ⊢; omega

/-- A press of its own raises the count, and its release is owed. -/
theorem pressAlone {i : HoldItem} {p : Port} {k t : Code}
    (hi : i = .keyDown p k t false ∨ i = .modHandover p k t false)
    (h : v.Draining c (i :: q) d) : (v.drained c i).Draining c q (owedAfter d i) := by
  obtain ⟨hkey, hbutton, hrel, halone, hdrained⟩ : i.namedKey = none ∧
      i.namedButton = none ∧ (∀ u, i.releases u = false) ∧ (∀ u, i.pressesAlone u = (t == u)) ∧
      v.drained c i = v.setCounts c (countUp t (v.counts c)) := by
    rcases hi with rfl | rfl <;> simp [HoldItem.namedKey, HoldItem.namedButton,
      HoldItem.releases, HoldItem.pressesAlone, KeyView.drained]
  rw [hdrained]
  refine h.step ((h.toUnwinding.skip hkey hbutton).setCounts ((h.canonical c).countUp t))
    fun e j => ?_
  have hc := h.counts e j
  simp only [owedAfter, hrel, halone, KeyView.setCounts] at hc ⊢
  by_cases he : e = c
  · subst he
    by_cases hj : j = t
    · subst hj; simp [countOf_countUp, hc]; omega
    · simp [countOf_countUp, hj, Ne.symm hj, hc]
  · simp [he, hc]

/-- A release behind its press lowers the count (R17). -/
theorem release {p : Port} {k t : Code} (h : v.Draining c (.keyUp p k t false :: q) d) :
    (v.drained c (.keyUp p k t false)).Draining c q (owedAfter d (.keyUp p k t false)) := by
  have hw := (h.toUnwinding.skip rfl rfl).setCounts (d := c) ((h.canonical c).countDown t)
  refine h.step hw fun e j => ?_
  rw [show v.drained c (.keyUp p k t false) = v.setCounts c (countDown t (v.counts c)) from rfl]
  have hc := h.counts e j
  have hle := h.releases_le j
  simp only [owedAfter, HoldItem.releases, HoldItem.pressesAlone, KeyView.setCounts] at hc hle ⊢
  by_cases he : e = c
  · subst he
    by_cases hj : j = t
    · subst hj; simp [countOf_countDown (h.canonical e), hc] at hle ⊢; omega
    · simp [countOf_countDown (h.canonical e), hj, beq_false_of_ne (Ne.symm hj), hc]
  · simp [he, hc]

/-- An item that concerns no code. -/
theorem other {i : HoldItem} {w : KeyView} (h : v.Draining c (i :: q) d)
    (hi : ∀ u, i.releases u = false ∧ i.pressesAlone u = false) (hw : w.Unwinding c q)
    (he : w.entries = v.entries) (hc : w.counts = v.counts) (hp : w.player = v.player) :
    w.Draining c q (owedAfter d i) :=
  h.step hw fun e k => by simpa [he, hc, hp, owedAfter, hi] using h.counts e k

theorem next {i : HoldItem} (h : v.Draining c (i :: q) d) :
    (v.drained c i).Draining c q (owedAfter d i) ∧
      PendingKept v.entries (v.drained c i).entries := by
  cases i with
  | keyDown p k t named =>
    cases named
    · exact ⟨h.pressAlone (.inl rfl), fun _ _ h => h⟩
    · exact h.pressNamed (.inl rfl)
  | modHandover p k t named =>
    cases named
    · exact ⟨h.pressAlone (.inr rfl), fun _ _ h => h⟩
    · exact h.pressNamed (.inr rfl)
  | keyUp p k t settled =>
    cases settled
    · exact ⟨h.release, fun _ _ h => h⟩
    · exact ⟨h.other (by simp [HoldItem.releases, HoldItem.pressesAlone])
        (h.toUnwinding.skip rfl rfl) rfl rfl rfl, fun _ _ h => h⟩
  | buttonDown b named =>
    have hcodes : ∀ u, (HoldItem.buttonDown b named).releases u = false ∧
        (HoldItem.buttonDown b named).pressesAlone u = false := fun _ => ⟨rfl, rfl⟩
    refine ⟨?_, fun _ _ h => h⟩
    cases named
    · refine h.other hcodes ?_ rfl rfl rfl
      simp only [KeyView.drained, Bool.false_eq_true, if_false]
      rw [show v.buttons b = (v.setHeld c b true).buttons b from rfl, KeyView.setButton_self]
      exact (h.toUnwinding.skip rfl rfl).setHeld c b true
    · obtain ⟨hb, hw⟩ := (h.toUnwinding.setHeld c b true).takeButton (y := .channel c .delivered)
        (by simp)
      refine h.other hcodes ?_ rfl rfl rfl
      simpa [KeyView.drained, markTarget, show v.buttons b = _ from hb] using hw
  | buttonUp b settled =>
    have hcodes : ∀ u, (HoldItem.buttonUp b settled).releases u = false ∧
        (HoldItem.buttonUp b settled).pressesAlone u = false := fun _ => ⟨rfl, rfl⟩
    have hw := h.toUnwinding.skip rfl rfl
    cases settled
    · exact ⟨h.other hcodes (hw.setHeld c b false) rfl rfl rfl, fun _ _ h => h⟩
    · exact ⟨h.other hcodes hw rfl rfl rfl, fun _ _ h => h⟩

end KeyView.Draining

end Sys2Proof.Machine
end

section
/-! A drain, a discard and a loss taken whole keep the discipline of held keys and of button states (R10, R17, R18). -/

namespace Sys2Proof.Machine

/-! ## Button states while a queue is drained (R17, R128) -/

/-- While channel c's queue is drained and `q` is left of it: a button's state is what the rest will make of it. -/
structure KeyView.ButtonsDraining (v : KeyView) (c : Chan) (q : List HoldItem) : Prop where
  other : ∀ d, d ≠ c → ∀ b, ButtonOk b d (v.held d b) (v.queue d) (v.buttons b)
  here : ∀ b, q.foldl (HoldItem.buttonAfter b) (v.held c b) = true ↔
    v.buttons b = some (.channel c .delivered) ∨ v.buttons b = some (.channel c .queued)

namespace KeyView.ButtonsDraining

variable {v w : KeyView} {c : Chan} {q : List HoldItem}

theorem start (h : v.ButtonsOk) (c : Chan) :
    (v.setQueue c [] 0).ButtonsDraining c (v.queue c) where
  other d hd b := by simpa [KeyView.setQueue, hd] using h d b
  here b := (h c b).drained

/-- An item is taken that leaves buttons and their states. -/
theorem skip {i : HoldItem} (h : v.ButtonsDraining c (i :: q)) (hi : ∀ b, i.changesButton b = false)
    (hb : w.buttons = v.buttons) (hh : w.held = v.held) (hq : w.queue = v.queue) :
    w.ButtonsDraining c q where
  other := by rw [hb, hh, hq]; exact h.other
  here b := by
    have := h.here b
    rw [List.foldl_cons, HoldItem.buttonAfter_of_quiet (hi b)] at this
    rw [hb, hh]
    exact this

/-- A button's item is taken: the button has the state it gives, and perhaps another target on channel c. -/
theorem take {b : Button} {i : HoldItem} {down : Bool} {x : Option ButtonTarget}
    (h : v.ButtonsDraining c (i :: q)) (hi : i.buttonAfter b (v.held c b) = down)
    (hother : ∀ d, d ≠ b → i.changesButton d = false)
    (hx : x = some (.channel c .delivered) ∨ x = some (.channel c .queued) ↔
      v.buttons b = some (.channel c .delivered) ∨ v.buttons b = some (.channel c .queued))
    (hxo : ∀ d, d ≠ c → ∀ st, x = some (.channel d st) ↔ v.buttons b = some (.channel d st)) :
    ((v.setHeld c b down).setButton b x).ButtonsDraining c q where
  other d hd e := by
    by_cases he : e = b
    · subst he
      simpa [KeyView.setButton, KeyView.setHeld, hd] using (h.other d hd e).elsewhere (hxo d hd)
    · simpa [KeyView.setButton, KeyView.setHeld, hd, he] using h.other d hd e
  here e := by
    have := h.here e
    rw [List.foldl_cons] at this
    by_cases he : e = b
    · subst he
      rw [hi] at this
      simpa [KeyView.setButton, KeyView.setHeld, hx] using this
    · rw [HoldItem.buttonAfter_of_quiet (hother e he)] at this
      simpa [KeyView.setButton, KeyView.setHeld, he] using this

theorem next {i : HoldItem} (h : v.ButtonsDraining c (i :: q)) :
    (v.drained c i).ButtonsDraining c q := by
  cases i with
  | keyDown p k t named => exact h.skip (fun _ => rfl) rfl rfl rfl
  | modHandover p k t named => exact h.skip (fun _ => rfl) rfl rfl rfl
  | keyUp p k t settled => cases settled <;> exact h.skip (fun _ => rfl) rfl rfl rfl
  | buttonDown b named =>
    refine h.take (by simp [HoldItem.buttonAfter])
      (fun d hd => by simp [HoldItem.changesButton, Ne.symm hd]) ?_ fun d hd st => ?_
    · cases named
      · simp
      · by_cases hb : v.buttons b = some (.channel c .queued) <;> simp [markTarget, hb]
    · cases named
      · simp
      · by_cases hb : v.buttons b = some (.channel c .queued) <;>
          simp [markTarget, hb, Ne.symm hd]
  | buttonUp b settled =>
    cases settled
    · have := h.take (b := b) (down := false) (x := v.buttons b) (by simp [HoldItem.buttonAfter])
        (fun d hd => by simp [HoldItem.changesButton, Ne.symm hd]) Iff.rfl fun _ _ _ => Iff.rfl
      rwa [show v.buttons b = (v.setHeld c b false).buttons b from rfl,
        KeyView.setButton_self] at this
    · exact h.skip (fun d => by simp [HoldItem.changesButton]) rfl rfl rfl

theorem finish (h : v.ButtonsDraining c []) (hq : v.queue c = [])
    (hnone : ∀ b, v.buttons b ≠ some (.channel c .queued)) : v.ButtonsOk := by
  intro d b
  by_cases hd : d = c
  · subst hd
    rw [hq]
    exact .emptied (by simpa [hnone] using h.here b) (hnone b)
  · exact h.other d hd b

end KeyView.ButtonsDraining

/-- What a drain makes of the view (R17). -/
def KeyView.drain (c : Chan) (v : KeyView) : KeyView :=
  (v.queue c).foldl (KeyView.drained c) (v.setQueue c [] 0)

section Folds

variable {v : KeyView} {c : Chan} {q : List HoldItem} {d : Code → Nat}

theorem KeyView.frame_foldl_drained (v : KeyView) (c : Chan) (q : List HoldItem) :
    v.Frame (q.foldl (KeyView.drained c) v) := by
  induction q generalizing v with
  | nil => exact .refl v
  | cons i q ih => exact (v.frame_drained c i).trans (ih _)

theorem KeyView.queue_foldl_drained (v : KeyView) (c : Chan) (q : List HoldItem) :
    (q.foldl (KeyView.drained c) v).queue = v.queue ∧
      (q.foldl (KeyView.drained c) v).reserved = v.reserved := by
  induction q generalizing v with
  | nil => exact ⟨rfl, rfl⟩
  | cons i q ih =>
    obtain ⟨h1, h2⟩ := v.queue_drained c i
    rw [← h1, ← h2]
    exact ih _

theorem KeyView.Draining.all (h : v.Draining c q d) :
    ∃ d', (q.foldl (KeyView.drained c) v).Draining c [] d' ∧
      PendingKept v.entries (q.foldl (KeyView.drained c) v).entries := by
  induction q generalizing v d with
  | nil => exact ⟨d, h, fun _ _ h => h⟩
  | cons i q ih =>
    obtain ⟨d', hd', hp⟩ := ih h.next.1
    exact ⟨d', hd', h.next.2.trans hp⟩

theorem KeyView.ButtonsDraining.all (h : v.ButtonsDraining c q) :
    (q.foldl (KeyView.drained c) v).ButtonsDraining c [] := by
  induction q generalizing v with
  | nil => exact h
  | cons i q ih => exact ih h.next

end Folds

/-- A drain keeps the whole discipline (R17). -/
theorem KeyView.leads_drain (v : KeyView) (c : Chan) : v.Leads (v.drain c) where
  frame _ := KeyView.Frame.trans (v := v.setQueue c [] 0) { KeyView.Frame.refl v with }
    (KeyView.frame_foldl_drained _ c _)
  sound B h := by
    obtain ⟨d, hd, hp⟩ := (KeyView.Draining.start h.core c).all
    obtain ⟨hq, hr⟩ := (v.setQueue c [] 0).queue_foldl_drained c (v.queue c)
    have hempty : (v.drain c).setQueue c [] 0 = v.drain c := by
      have h1 : (v.drain c).queue c = [] := by rw [KeyView.drain, hq]; simp [KeyView.setQueue]
      have h2 : (v.drain c).reserved c = 0 := by rw [KeyView.drain, hr]; simp [KeyView.setQueue]
      simpa [h1, h2] using KeyView.setQueue_self (v.drain c) c
    have hcore : (v.drain c).Core := hempty ▸ hd.toUnwinding.finish fun e k => by
      have h0 : 0 = d k := by simpa using hd.balance k
      simpa [← h0] using hd.counts e k
    refine ⟨hcore, h.tap.mono
      (fun k p hk => (KeyView.frame_foldl_drained (v.setQueue c [] 0) c _).attention k p hk) hp, fun hB => ?_⟩
    exact (KeyView.ButtonsDraining.start (h.buttons hB) c).all.finish
      (by rw [hq]; simp [KeyView.setQueue]) (NamesExactly.empty_iff.1 hd.buttons)

/-! ## The discard (R18) -/

/-- What the discard of one item makes of the view (R18). -/
def KeyView.discarded (v : KeyView) (i : HoldItem) : KeyView :=
  match i with
  | .keyDown p k _ true | .modHandover p k _ true =>
    (v.setEntries (setTarget p k .consumed v.entries))
  | .buttonDown b true => v.setButton b (some .consumed)
  | _ => v

/-- What a discard makes of the view (R18). -/
def KeyView.discard (c : Chan) (v : KeyView) : KeyView :=
  ((v.queue c).foldl KeyView.discarded v).setQueue c [] 0

/-- While channel c's queue is discarded and `q` is left of it. -/
structure KeyView.Discarding (v : KeyView) (c : Chan) (q : List HoldItem) : Prop
    extends v.Unwinding c q where
  counts : ∀ d k, countOf k (v.counts d) = heldBy v.entries d k + playerHolds v.player d k

/-- The same for the button states: those on channel c are right, whatever waits in the queue. -/
structure KeyView.ButtonsDiscarding (v : KeyView) (c : Chan) : Prop where
  other : ∀ d, d ≠ c → ∀ b, ButtonOk b d (v.held d b) (v.queue d) (v.buttons b)
  here : ∀ b, v.held c b = true ↔ v.buttons b = some (.channel c .delivered)

section Folds

variable {v : KeyView} {c : Chan} {i : HoldItem} {q : List HoldItem}

theorem KeyView.Discarding.takeKey {p : Port} {k t : Code} (h : v.Discarding c (i :: q))
    (hk : i.namedKey = some (p, k, t)) (hb : i.namedButton = none) :
    KeyView.Discarding (v.setEntries (setTarget p k .consumed v.entries)) c q ∧
      PendingKept v.entries (setTarget p k .consumed v.entries) := by
  obtain ⟨hw, sw⟩ := h.toUnwinding.takeKey hk hb (y := .consumed) (by simp)
  refine ⟨{ hw with counts := fun d j => ?_ }, sw.pendingKept (by simp)⟩
  rw [KeyView.entries_setEntries, sw.heldBy_same (by simp) (by simp)]
  exact h.counts d j

theorem KeyView.Discarding.next (h : v.Discarding c (i :: q)) :
    (v.discarded i).Discarding c q ∧ PendingKept v.entries (v.discarded i).entries := by
  have hskip : i.namedKey = none → i.namedButton = none → v.Discarding c q := fun hk hb =>
    { h.toUnwinding.skip hk hb with counts := h.counts }
  rcases i with ⟨p, k, t, _ | _⟩ | ⟨_, _, _, _⟩ | ⟨b, _ | _⟩ | ⟨_, _⟩ | ⟨p, k, t, _ | _⟩
  case keyDown.true | modHandover.true => exact h.takeKey rfl rfl
  case buttonDown.true =>
    exact ⟨{ (h.toUnwinding.takeButton (y := .consumed) (by simp)).2 with counts := h.counts },
      fun _ _ h => h⟩
  all_goals exact ⟨hskip rfl rfl, fun _ _ h => h⟩

theorem KeyView.ButtonsDiscarding.takeButton {b : Button} (h : v.ButtonsDiscarding c)
    (hb : v.buttons b = some (.channel c .queued)) :
    (v.setButton b (some .consumed)).ButtonsDiscarding c where
  other d hd e := by
    by_cases he : e = b
    · subst he
      simpa [KeyView.setButton] using
        (h.other d hd e).elsewhere (t' := some .consumed) (by simp [hb, Ne.symm hd])
    · simpa [KeyView.setButton, he] using h.other d hd e
  here e := by
    by_cases he : e = b
    · subst he
      simpa [KeyView.setButton, hb] using h.here e
    · simpa [KeyView.setButton, he] using h.here e

theorem KeyView.ButtonsDiscarding.next (hu : v.Unwinding c (i :: q)) (h : v.ButtonsDiscarding c) :
    (v.discarded i).ButtonsDiscarding c := by
  rcases i with ⟨p, k, t, _ | _⟩ | ⟨_, _, _, _⟩ | ⟨b, _ | _⟩ | ⟨_, _⟩ | ⟨p, k, t, _ | _⟩
  case buttonDown.true => exact h.takeButton (hu.takeButton (y := .consumed) (by simp)).1
  all_goals exact ⟨h.other, h.here⟩

theorem KeyView.Unwinding.frame_discarded (hv : v.Unwinding c (i :: q)) :
    v.Frame (v.discarded i) := by
  rcases i with ⟨p, k, t, _ | _⟩ | ⟨_, _, _, _⟩ | ⟨b, _ | _⟩ | ⟨_, _⟩ | ⟨p, k, t, _ | _⟩
  case keyDown.true | modHandover.true => exact .setTarget v p k _
  case buttonDown.true =>
    exact .setButton fun _ => by
      rw [(hv.takeButton (y := .consumed) (by simp)).1]
      simp
  all_goals exact .refl v

theorem KeyView.Discarding.all (h : v.Discarding c q) :
    (q.foldl KeyView.discarded v).Discarding c [] ∧
      PendingKept v.entries (q.foldl KeyView.discarded v).entries ∧
      v.Frame (q.foldl KeyView.discarded v) := by
  induction q generalizing v with
  | nil => exact ⟨h, fun _ _ h => h, .refl v⟩
  | cons i q ih =>
    obtain ⟨hd, hp, hf⟩ := ih h.next.1
    exact ⟨hd, h.next.2.trans hp, h.toUnwinding.frame_discarded.trans hf⟩

theorem KeyView.ButtonsDiscarding.all (hd : v.Discarding c q) (h : v.ButtonsDiscarding c) :
    (q.foldl KeyView.discarded v).ButtonsDiscarding c := by
  induction q generalizing v with
  | nil => exact h
  | cons i q ih => exact ih hd.next.1 (h.next hd.toUnwinding)

end Folds

/-- A discard keeps the whole discipline (R18). -/
theorem KeyView.leads_discard (v : KeyView) (c : Chan) : v.Leads (v.discard c) := by
  have start : v.Core → v.Discarding c (v.queue c) := fun h =>
    { KeyView.Unwinding.start h c with counts := h.counts }
  refine ⟨fun h => ?_, fun B h => ?_⟩
  · obtain ⟨-, -, hf⟩ := (start h.core).all
    exact { hf with }
  · obtain ⟨hd, hp, hf⟩ := (start h.core).all
    refine ⟨hd.toUnwinding.finish hd.counts, h.tap.mono hf.attention hp, fun hB d b => ?_⟩
    have hb := KeyView.ButtonsDiscarding.all (start h.core)
      ⟨fun d _ b => h.buttons hB d b, fun b => (h.buttons hB c b).state⟩
    by_cases hdc : d = c
    · subst hdc
      simpa [KeyView.discard, KeyView.setQueue] using
        ButtonOk.emptied (hb.here b) (NamesExactly.empty_iff.1 hd.buttons b)
    · simpa [KeyView.discard, KeyView.setQueue, hdc] using hb.other d hdc b

/-! ## The loss of a link (R10) -/

/-- What a loss of channel c's link makes of the view (R10, R96). -/
def KeyView.lose (c : Chan) (v : KeyView) : KeyView where
  entries := v.entries.map (consumeEntryOf c)
  counts := Function.update v.counts c []
  queue := Function.update v.queue c []
  reserved := Function.update v.reserved c 0
  buttons b := consumeButtonOf c (v.buttons b)
  held := Function.update v.held c fun _ => false
  player := if v.player.map (·.1) = some c then none else v.player
  attention := v.attention

theorem consumeEntryOf_at (c : Chan) (e : KeyEntry) :
    e.at (consumeEntryOf c e).port (consumeEntryOf c e).code := by
  unfold consumeEntryOf
  split <;> exact ⟨rfl, rfl⟩

theorem Sorted.consume {es : List KeyEntry} (h : Sorted es) (c : Chan) :
    Sorted (es.map (consumeEntryOf c)) := by
  refine List.pairwise_map.2 (h.imp fun {a b} hab => ?_)
  obtain ⟨ha, ha'⟩ := consumeEntryOf_at c a
  obtain ⟨hb, hb'⟩ := consumeEntryOf_at c b
  rw [entryBefore_iff] at hab ⊢
  rwa [← ha, ← ha', ← hb, ← hb']

/-- After a loss no entry targets the channel, and entries of other channels stand as they did. -/
theorem mem_map_consumeEntryOf {c d : Chan} {p : Port} {k : Code} {t : Option Code} {st : Delivery}
    {es : List KeyEntry} : ⟨p, k, .channel d t st⟩ ∈ es.map (consumeEntryOf c) ↔
      d ≠ c ∧ ⟨p, k, .channel d t st⟩ ∈ es := by
  rw [List.mem_map]
  constructor
  · rintro ⟨⟨q, j, x⟩, he, h⟩
    unfold consumeEntryOf at h
    split at h
    · cases h
    · rename_i hx
      cases h
      exact ⟨fun hd => hx (by simp [KeyTarget.isChannel, hd]), he⟩
  · rintro ⟨hd, he⟩
    exact ⟨_, he, by simp [consumeEntryOf, KeyTarget.isChannel, hd]⟩

theorem pendingKept_consume (c : Chan) (es : List KeyEntry) :
    PendingKept es (es.map (consumeEntryOf c)) :=
  fun p k h => List.mem_map.2 ⟨⟨p, k, .pendingTap⟩, h, rfl⟩

theorem heldBy_consume (c d : Chan) (k : Code) (es : List KeyEntry) :
    heldBy (es.map (consumeEntryOf c)) d k = if d = c then 0 else heldBy es d k := by
  rw [heldBy, List.countP_map]
  split
  · rename_i hd
    refine List.countP_eq_zero.2 fun e _ => ?_
    subst hd
    unfold Function.comp consumeEntryOf
    split
    · simp
    · rename_i he
      simp only [beq_iff_eq]
      intro ht
      simp [ht, KeyTarget.isChannel] at he
  · rename_i hd
    refine List.countP_congr fun e _ => ?_
    unfold Function.comp consumeEntryOf
    split
    · rename_i he
      simp only [beq_iff_eq]
      constructor
      · simp
      · intro ht
        simp [ht, KeyTarget.isChannel, hd] at he
    · rfl

theorem consumeButtonOf_eq_channel {c d : Chan} {t : Option ButtonTarget} {st : Delivery} :
    consumeButtonOf c t = some (.channel d st) ↔ d ≠ c ∧ t = some (.channel d st) := by
  rcases t with _ | _ | ⟨e, st'⟩
  · simp [consumeButtonOf]
  · simp [consumeButtonOf, ButtonTarget.isChannel]
  · by_cases he : e = c
    · subst he; simp [consumeButtonOf, ButtonTarget.isChannel, eq_comm]; tauto
    · simp [consumeButtonOf, ButtonTarget.isChannel, he]
      rintro rfl -
      exact he

theorem playerHolds_lose (v : KeyView) (c d : Chan) (k : Code) :
    playerHolds (v.lose c).player d k = if d = c then 0 else playerHolds v.player d k := by
  unfold KeyView.lose playerHolds
  cases v.player with
  | none => simp
  | some pl =>
    by_cases hp : pl.1 = c
    · subst hp
      by_cases hd : d = pl.1
      · simp [hd]
      · simp [hd, Ne.symm hd]
    · by_cases hd : d = c <;> simp [hp, hd]

/-- A loss keeps the whole discipline (R10). -/
theorem KeyView.leads_lose (v : KeyView) (c : Chan) : v.Leads (v.lose c) where
  frame _ :=
    { attention := fun _ _ h => h
      pairs := fun e he => by
        obtain ⟨a, ha, rfl⟩ := List.mem_map.1 he
        exact ⟨a, ha, consumeEntryOf_at c a⟩
      buttons := fun b hb hn => hb (by simp [KeyView.lose, hn, consumeButtonOf]) }
  sound B h := by
    refine ⟨⟨h.core.sorted.consume c, fun d => ?_, fun d => ?_, fun pl hpl => ?_, fun d k => ?_⟩,
      h.tap.mono (fun _ _ h => h) (pendingKept_consume c _), fun hB d b => ?_⟩
    · by_cases hd : d = c
      · subst hd; simp [KeyView.lose, Counts.Canonical]
      · simpa [KeyView.lose, hd] using h.core.canonical d
    · by_cases hd : d = c
      · subst hd
        simpa [KeyView.lose] using QueueOk.empty (es := v.entries.map (consumeEntryOf d))
          (bs := fun b => consumeButtonOf d (v.buttons b)) (c := d)
          (fun p k t hm => (mem_map_consumeEntryOf.1 hm).1 rfl)
          fun b hb => (consumeButtonOf_eq_channel.1 hb).1 rfl
      · simpa [KeyView.lose, hd] using (h.core.queues d).congr
          (es' := v.entries.map (consumeEntryOf c))
          (bs' := fun b => consumeButtonOf c (v.buttons b))
          (fun p k t => by simp [mem_map_consumeEntryOf, hd])
          fun b => by simp [consumeButtonOf_eq_channel, hd]
    · unfold KeyView.lose at hpl
      dsimp only at hpl
      split at hpl
      · cases hpl
      · exact h.core.player pl hpl
    · rw [playerHolds_lose]
      simp only [KeyView.lose, heldBy_consume]
      by_cases hd : d = c
      · subst hd; simp [countOf]
      · simpa [hd] using h.core.counts d k
    · have hb := h.buttons hB d b
      by_cases hd : d = c
      · subst hd
        simpa [KeyView.lose] using ButtonOk.emptied (b := b) (c := d) (held := false)
          (t := consumeButtonOf d (v.buttons b)) (by simp [consumeButtonOf_eq_channel])
          (by simp [consumeButtonOf_eq_channel])
      · simpa [KeyView.lose, hd] using hb.elsewhere (t' := consumeButtonOf c (v.buttons b))
          fun st => by simp [consumeButtonOf_eq_channel, hd]

end Sys2Proof.Machine
end

section
/-! What the shared operations make of the view and of the output log: reports only to ACTIVE links (R3), and the changes
that are no matter to the discipline of held keys. -/

namespace Sys2Proof.Machine

/-! ## Links that are not ACTIVE stay so and hear nothing (R3) -/

@[simp] theorem reportsTo_append (c : Chan) (l m : List Sent) :
    reportsTo c (l ++ m) = reportsTo c l ++ reportsTo c m := List.filterMap_append

@[simp] theorem reportsTo_nil (c : Chan) : reportsTo c [] = [] := rfl

/-- From `s` to `t` the log goes on, and if channel c's link is not ACTIVE it stays so and gets no report. -/
def QuietFor (c : Chan) (s t : State) : Prop :=
  ∃ l, t.sent = s.sent ++ l ∧
    ((s.link c).state ≠ .active → (t.link c).state ≠ .active ∧ reportsTo c l = [])

namespace QuietFor

variable {c : Chan} {s t u : State}

theorem refl (c : Chan) (s : State) : QuietFor c s s := ⟨[], by simp, fun h => ⟨h, rfl⟩⟩

theorem trans (h : QuietFor c s t) (k : QuietFor c t u) : QuietFor c s u := by
  obtain ⟨l, hl, hq⟩ := h
  obtain ⟨m, hm, kq⟩ := k
  refine ⟨l ++ m, by simp [hl, hm], fun hs => ?_⟩
  obtain ⟨ht, hl⟩ := hq hs
  obtain ⟨hu, hm⟩ := kq ht
  exact ⟨hu, by simp [hl, hm]⟩

/-- Nothing was sent, and the link is as ACTIVE as it was. -/
theorem of_sent_eq (hs : t.sent = s.sent)
    (hl : (s.link c).state ≠ .active → (t.link c).state ≠ .active) : QuietFor c s t :=
  ⟨[], by simp [hs], fun h => ⟨hl h, rfl⟩⟩

theorem of_links_eq (hs : t.sent = s.sent) (hl : t.links = s.links) : QuietFor c s t :=
  of_sent_eq hs fun h => by rwa [State.link, hl]

theorem setLink (d : Chan) {l : Link} (hl : l.state = .active → (s.link d).state = .active) :
    QuietFor c s (s.setLink d l) := by
  refine of_sent_eq rfl fun h => ?_
  rw [State.link_setLink]
  split
  · rename_i hd; subst hd; exact fun hs => h (hl hs)
  · exact h

/-- What is no report may leave. -/
theorem emit {o : Sent} (ho : reportsTo c [o] = []) : QuietFor c s (s.emit o) :=
  ⟨[o], rfl, fun h => ⟨h, ho⟩⟩

theorem offer (c d : Chan) (i : Interface) (b : List Byte) (s : State) :
    QuietFor c s (offer d i b s) := by
  unfold Machine.offer
  split
  · rename_i hd
    refine ⟨[.report d i b], rfl, fun h => ⟨h, ?_⟩⟩
    have hne : d ≠ c := fun e => h (e ▸ hd)
    simp [reportsTo, hne]
  · exact .refl c s

theorem newSent_eq {l : List Sent} (h : t.sent = s.sent ++ l) : newSent s t = l := by
  simp [newSent, h]

/-- The statement of R3 for a step. -/
theorem reports (h : QuietFor c s t) (hs : (s.link c).state ≠ .active) :
    (t.link c).state ≠ .active ∧ reportsTo c (newSent s t) = [] := by
  obtain ⟨l, hl, hq⟩ := h
  rw [newSent_eq hl]
  exact hq hs

end QuietFor

/-- The same for every channel. -/
def Quiet (s t : State) : Prop := ∀ c, QuietFor c s t

namespace Quiet

variable {s t u : State}

theorem refl (s : State) : Quiet s s := fun c => .refl c s

theorem trans (h : Quiet s t) (k : Quiet t u) : Quiet s u := fun c => (h c).trans (k c)

theorem of_eq (hs : t.sent = s.sent) (hl : t.links = s.links) : Quiet s t :=
  fun _ => .of_links_eq hs hl

theorem setLink {c : Chan} {l : Link} (s : State)
    (hs : l.state = .active → (s.link c).state = .active) : Quiet s (s.setLink c l) :=
  fun _ => .setLink c hs

theorem emit {o : Sent} (s : State) (ho : ∀ c, reportsTo c [o] = []) : Quiet s (s.emit o) :=
  fun c => .emit (ho c)

theorem foldl {α : Type} {f : State → α → State} (h : ∀ s a, Quiet s (f s a)) (l : List α)
    (s : State) : Quiet s (l.foldl f s) := by
  induction l generalizing s with
  | nil => exact .refl s
  | cons a l ih => exact (h s a).trans (ih _)

end Quiet

/-! ## The view of each update -/

@[simp] theorem view_setEntries (s : State) (es : List KeyEntry) :
    (s.setEntries es).view = (s.view.setEntries (es)) := rfl

@[simp] theorem view_targetKey (s : State) (p : Port) (k : Code) (t : KeyTarget) :
    (s.targetKey p k t).view = (s.view.setEntries (setTarget p k t s.view.entries)) := rfl

@[simp] theorem view_dropKey (s : State) (p : Port) (k : Code) :
    (s.dropKey p k).view = (s.view.setEntries (dropEntry p k s.view.entries)) := rfl

@[simp] theorem view_putKey (s : State) (p : Port) (k : Code) (t : KeyTarget) :
    (s.putKey p k t).view = (s.view.setEntries (putEntry ⟨p, k, t⟩ s.view.entries)) := rfl

theorem nth_put_eq_update {α : Type} {n : Nat} (v : Vector α n) (i : Fin n) (a : α) :
    nth (put v i a) = Function.update (nth v) i a := by
  funext j
  rw [nth_put, Function.update_apply]
  simp [eq_comm]

/-- A place written twice holds what was written last. -/
theorem put_put {α : Type} {n : Nat} (v : Vector α n) (i : Fin n) (a b : α) :
    put (put v i a) i b = put v i b := nth_ext fun j => by
  simp only [nth_put_eq_update, Function.update_idem]

/-- A place written with what it holds already. -/
theorem put_nth_self {α : Type} {n : Nat} (v : Vector α n) (i : Fin n) :
    put v i (nth v i) = v := nth_ext fun j => by
  rw [nth_put_eq_update, Function.update_eq_self]

@[simp] theorem view_setCounts (s : State) (c : Chan) (m : Counts) :
    (s.setCounts c m).view = s.view.setCounts c m := by
  have : (s.setCounts c m).counts = Function.update s.counts c m := nth_put_eq_update ..
  simp only [State.view, this]
  rfl

@[simp] theorem view_setLink (s : State) (c : Chan) (l : Link) :
    (s.setLink c l).view = s.view.setQueue c l.queue l.reserved := by
  have h : ∀ d, (s.setLink c l).link d = Function.update s.link c l d := fun d =>
    congrFun (nth_put_eq_update s.links c l) d
  have hq : (fun d => (Function.update s.link c l d).queue) =
      Function.update (fun d => (s.link d).queue) c l.queue := by
    funext d; by_cases hd : d = c <;> simp [hd]
  have hr : (fun d => (Function.update s.link c l d).reserved) =
      Function.update (fun d => (s.link d).reserved) c l.reserved := by
    funext d; by_cases hd : d = c <;> simp [hd]
  simp only [State.view, h, hq, hr]
  rfl

@[simp] theorem view_setHeld (s : State) (c : Chan) (b : Button) (down : Bool) :
    (s.setHeld c (put (s.held c) b down)).view = s.view.setHeld c b down := by
  have h : (fun d => nth ((s.setHeld c (put (s.held c) b down)).held d)) =
      Function.update (fun d => nth (s.held d)) c
        (Function.update (nth (s.held c)) b down) := by
    funext d
    rw [State.held_setHeld, Function.update_apply]
    by_cases hd : d = c
    · subst hd; simp [nth_put_eq_update]
    · simp [hd, Ne.symm hd]
  simp only [State.view, h]
  rfl

@[simp] theorem view_setButton (s : State) (b : Button) (t : Option ButtonTarget) :
    (s.setButton b t).view = s.view.setButton b t := by
  have : nth (s.setButton b t).pointer.buttons = Function.update (nth s.pointer.buttons) b t :=
    nth_put_eq_update ..
  simp only [State.view, this]
  rfl

@[simp] theorem view_setPlayer (s : State) (pl : Option Player) :
    (setPlayer pl s).view = s.view.setPlayer (pl.map Player.served) := rfl

@[simp] theorem view_setAttention (s : State) (a : Attention) :
    (setAttention a s).view = { s.view with attention := a } := rfl

@[simp] theorem view_emit (s : State) (o : Sent) : (s.emit o).view = s.view := rfl

@[simp] theorem view_setFocus (s : State) (f : Focus) : (s.setFocus f).view = s.view := rfl

@[simp] theorem view_setMgmt (s : State) (m : Mgmt) : (s.setMgmt m).view = s.view := rfl

@[simp] theorem view_offer (s : State) (c : Chan) (i : Interface) (b : List Byte) :
    (offer c i b s).view = s.view := by unfold offer; split <;> rfl

@[simp] theorem view_sendKeyboard (s : State) (c : Chan) : (sendKeyboard c s).view = s.view :=
  view_offer ..

@[simp] theorem view_sendButtons (s : State) (c : Chan) : (sendButtons c s).view = s.view :=
  view_offer ..

@[simp] theorem view_sendAlert (s : State) (c : Chan) (e : Event) :
    (sendAlert c e s).view = s.view := by simp [sendAlert]

@[simp] theorem view_latch (s : State) (e : Event) : (latch e s).view = s.view := by
  unfold latch
  dsimp only
  repeat' split
  all_goals simp

@[simp] theorem view_pressCode (s : State) (c : Chan) (k : Code) :
    (pressCode c k s).view = s.view.setCounts c (countUp k (s.view.counts c)) := by
  unfold pressCode
  dsimp only
  split <;> simp <;> rfl

@[simp] theorem view_lowerCode (s : State) (c : Chan) (k : Code) :
    (lowerCode c k s).view = s.view.setCounts c (countDown k (s.view.counts c)) :=
  view_setCounts ..

@[simp] theorem view_releaseCode (s : State) (c : Chan) (k : Code) :
    (releaseCode c k s).view = s.view.setCounts c (countDown k (s.view.counts c)) := by
  unfold releaseCode
  split <;> simp

@[simp] theorem view_signalWake (s : State) (c : Chan) (n : Nat) :
    (signalWake c n s).view = s.view := by
  simp only [signalWake, view_emit, view_setLink]
  exact KeyView.setQueue_self s.view c

@[simp] theorem view_wakeRequest (s : State) (c : Chan) : (wakeRequest c s).2.view = s.view := by
  unfold wakeRequest
  repeat' split
  all_goals simp

/-! ## Changes in the background -/

/-- A change that sends reports to ACTIVE links alone, makes no link ACTIVE, leaves the console ports and keeps the
discipline of held keys and buttons. -/
structure Background (s t : State) : Prop where
  quiet : Quiet s t
  console : t.console = s.console
  leads : s.view.Leads t.view

namespace Background

variable {s t u : State}

theorem refl (s : State) : Background s s := ⟨.refl s, rfl, .refl _⟩

theorem trans (h : Background s t) (k : Background t u) : Background s u :=
  ⟨h.quiet.trans k.quiet, k.console.trans h.console, h.leads.trans k.leads⟩

/-- A change outside the view. -/
theorem of_view (hq : Quiet s t) (hc : t.console = s.console) (hv : t.view = s.view) :
    Background s t := ⟨hq, hc, hv ▸ .refl _⟩

/-- A change outside the view that sends nothing and leaves the links. -/
theorem of_eq (hs : t.sent = s.sent) (hl : t.links = s.links) (hc : t.console = s.console)
    (hv : t.view = s.view) : Background s t := of_view (.of_eq hs hl) hc hv

theorem offer (c : Chan) (i : Interface) (b : List Byte) (s : State) :
    Background s (offer c i b s) := of_view (fun d => .offer d c i b s) (by simp) (by simp)

theorem setMgmt (m : Mgmt) (s : State) : Background s (s.setMgmt m) := of_eq rfl rfl rfl rfl

theorem setFocus (f : Focus) (s : State) : Background s (s.setFocus f) := of_eq rfl rfl rfl rfl

theorem withTables (T : Tables) (s : State) : Background s (s.withTables T) := of_eq rfl rfl rfl rfl

theorem setMonitorRun (m : Monitor) (r : MonitorRun) (s : State) :
    Background s (s.setMonitorRun m r) := of_eq rfl rfl rfl rfl

/-- The desk pointer's place and channel and the last positions are no matter. -/
theorem setPointer {p : Pointer} (s : State) (hb : p.buttons = s.pointer.buttons)
    (hh : p.held = s.pointer.held) : Background s (s.setPointer p) :=
  of_eq rfl rfl rfl (by
    simp only [State.view, State.held, State.setPointer_pointer, hb, hh]
    rfl)

/-- A link set with the queue it has; ACTIVE only if it was. -/
theorem setLink {c : Chan} {l : Link} (s : State)
    (hs : l.state = .active → (s.link c).state = .active) (hq : l.queue = (s.link c).queue)
    (hr : l.reserved = (s.link c).reserved) : Background s (s.setLink c l) :=
  of_view (.setLink s hs) rfl (by
    rw [view_setLink, hq, hr]
    exact KeyView.setQueue_self s.view c)

theorem sendAlert (c : Chan) (e : Event) (s : State) : Background s (sendAlert c e s) :=
  (offer c .management (alertBytes e s) s).trans (setMgmt _ _)

theorem latch (e : Event) (s : State) : Background s (latch e s) := by
  unfold Machine.latch
  dsimp only
  repeat' split
  · exact setMgmt _ s
  · exact (setMgmt _ s).trans (sendAlert _ e _)
  · exact setMgmt _ s

theorem alertWhenActive (s : State) : Background s (alertWhenActive s) := by
  unfold Machine.alertWhenActive
  split
  · exact sendAlert _ _ s
  · exact refl s

theorem alertOnActive (c : Chan) (s : State) : Background s (alertOnActive c s) := by
  unfold Machine.alertOnActive
  split
  · exact alertWhenActive s
  · exact refl s

theorem emitWake (c : Chan) (s : State) : Background s (s.emit (.wakeSignal c)) :=
  of_view (.emit s fun _ => rfl) rfl rfl

theorem signalWake (c : Chan) (n : Nat) (s : State) : Background s (signalWake c n s) :=
  (setLink (c := c) (l := { s.link c with
    state := .waking, window := some (s.chanRec c).wakeWindow, tries := n }) s
      (fun h => nomatch h) rfl rfl).trans (emitWake c _)

theorem wakeRequest (c : Chan) (s : State) : Background s (wakeRequest c s).2 := by
  unfold Machine.wakeRequest
  repeat' split
  · exact refl s
  · exact refl s
  · exact signalWake c 1 s
  · exact latch .wakeDenied s
  · exact refl s

theorem drivePort (p : Port) (s : State) : Background s (drivePort p s) := by
  unfold Machine.drivePort
  split
  · exact of_view (.emit s fun _ => rfl) rfl rfl
  · exact refl s

theorem driveConsoleLeds (s : State) : Background s (driveConsoleLeds s) :=
  (drivePort .key s).trans (drivePort .aux _)

theorem requestCue (q : Cue) (s : State) : Background s (requestCue q s) := setFocus _ s

theorem cancelDwell (s : State) : Background s (cancelDwell s) := setFocus _ s

theorem sendKeyboard (c : Chan) (s : State) : Background s (sendKeyboard c s) := offer ..

theorem sendButtons (c : Chan) (s : State) : Background s (sendButtons c s) := offer ..

theorem fullStateReports (c : Chan) (s : State) : Background s (fullStateReports c s) :=
  (sendKeyboard c s).trans (sendButtons c _)

/-- A fold of changes in the background is one. -/
theorem foldl {α : Type} {f : State → α → State} (h : ∀ s a, Background s (f s a)) (l : List α)
    (s : State) : Background s (l.foldl f s) := by
  induction l generalizing s with
  | nil => exact refl s
  | cons a l ih => exact (h s a).trans (ih _)

end Background

end Sys2Proof.Machine
end

section
/-! Held keys: releases, settlements, hand-overs, taps and routed presses keep the discipline (R15, R33 to R37, R71). -/

namespace Sys2Proof.Machine

/-! ## Nothing is heard where a link is not ACTIVE (R3) -/

namespace Quiet

theorem pressCode (c : Chan) (k : Code) (s : State) : Quiet s (pressCode c k s) := by
  unfold Machine.pressCode
  dsimp only
  split
  · exact trans (of_eq rfl rfl) (Background.sendKeyboard c _).quiet
  · exact of_eq rfl rfl

theorem releaseCode (c : Chan) (k : Code) (s : State) : Quiet s (releaseCode c k s) := by
  unfold Machine.releaseCode
  split
  · exact trans (of_eq rfl rfl) (Background.sendKeyboard c _).quiet
  · exact of_eq rfl rfl

theorem placeSettled (c : Chan) (i : HoldItem) (s : State) : Quiet s (placeSettled c i s) := by
  unfold Machine.placeSettled
  dsimp only
  split
  · exact setLink s id
  · exact refl s

theorem removeContribution (c : Chan) (p : Port) (k t : Code) (s : State) :
    Quiet s (removeContribution c p k t s) := by
  unfold Machine.removeContribution
  split
  · exact releaseCode c t s
  · exact trans (of_eq rfl rfl) (placeSettled c _ _)

theorem placeDown (c : Chan) (i : HoldItem) (s : State) : Quiet s (placeDown c i s).2 := by
  unfold Machine.placeDown
  dsimp only
  split
  · exact setLink s id
  · exact (Background.latch _ s).quiet

theorem placeRelease (c : Chan) (i : HoldItem) (s : State) : Quiet s (placeRelease c i s) :=
  setLink s id

theorem forgetKey (c : Chan) (p : Port) (k : Code) (s : State) : Quiet s (forgetKey c p k s) :=
  setLink s id

theorem queueDown (c : Chan) (i : HoldItem) (s : State) : Quiet s (queueDown c i s).2 :=
  placeDown c i s

theorem offerDown (c : Chan) (i : HoldItem) (s : State) : Quiet s (offerDown c i s).2 := by
  unfold Machine.offerDown
  repeat' split
  · exact refl s
  · exact (queueDown c i s).trans (Background.wakeRequest c _).quiet
  · exact (Background.latch _ s).quiet
  · exact refl s
  · exact queueDown c i s
  · exact refl s
  · exact queueDown c i s

end Quiet

/-! ## Views of the queue's operations -/

/-- Room for a press and the place it reserves (R13). -/
def State.roomFor (s : State) (c : Chan) : Prop := 2 ≤ (s.link c).free

theorem State.roomFor.places {s : State} {c : Chan} (h : s.roomFor c) :
    (s.view.queue c).length + s.view.reserved c + 2 ≤ 32 := by
  have : 2 ≤ 32 - ((s.link c).queue.length + (s.link c).reserved) := h
  show (s.link c).queue.length + (s.link c).reserved + 2 ≤ 32
  omega

/-- What a down item's place in the queue makes of the view (R13). -/
theorem placeDown_cases (c : Chan) (i : HoldItem) (s : State) :
    (placeDown c i s).1 = true ∧ s.roomFor c ∧ (placeDown c i s).2.view =
        s.view.setQueue c (s.view.queue c ++ [i]) (s.view.reserved c + 1) ∨
      (placeDown c i s).1 = false ∧ (placeDown c i s).2.view = s.view := by
  unfold placeDown
  dsimp only
  split
  · rename_i h
    exact .inl ⟨rfl, h, view_setLink ..⟩
  · exact .inr ⟨rfl, view_latch ..⟩

@[simp] theorem view_placeRelease (c : Chan) (i : HoldItem) (s : State) :
    (placeRelease c i s).view =
      s.view.setQueue c (s.view.queue c ++ [i]) (s.view.reserved c - 1) := view_setLink ..

@[simp] theorem view_forgetKey (c : Chan) (p : Port) (k : Code) (s : State) :
    (forgetKey c p k s).view = s.view.setQueue c
      ((s.view.queue c).map (HoldItem.forgetKey p k)) (s.view.reserved c) := view_setLink ..

/-- What the record of a settled release makes of the view (R15): it joins, where it has a place, or is lost. -/
theorem view_placeSettled (c : Chan) (i : HoldItem) (s : State) :
    (placeSettled c i s).view = s.view ∨
      (s.view.queue c = [] ∨ (s.view.queue c).length + s.view.reserved c + 1 ≤ 32) ∧
      (placeSettled c i s).view =
        s.view.setQueue c (s.view.queue c ++ [i]) (s.view.reserved c) := by
  unfold placeSettled
  dsimp only
  split
  · rename_i h
    refine .inr ⟨h.2.imp id fun hf => ?_, view_setLink ..⟩
    have : 1 ≤ 32 - ((s.link c).queue.length + (s.link c).reserved) := hf
    show (s.link c).queue.length + (s.link c).reserved + 1 ≤ 32
    omega
  · exact .inl rfl

/-! ## Changes of one pair that keep the discipline -/

/-- A change of the table at the pair (p, k) from target `x` to `y`, if the table is in order. -/
def Swaps (p : Port) (k : Code) (x y : Option KeyTarget) (es es' : List KeyEntry) : Prop :=
  Sorted es → Swap p k x y es es' ∧ Sorted es'

theorem Swaps.setTarget {p : Port} {k : Code} {x : KeyTarget} {es : List KeyEntry}
    (hx : ⟨p, k, x⟩ ∈ es) (y : KeyTarget) : Swaps p k (some x) (some y) es (setTarget p k y es) :=
  fun h => ⟨h.swap_setTarget hx y, h.setTarget p k y⟩

theorem Swaps.drop {p : Port} {k : Code} {x : KeyTarget} {es : List KeyEntry}
    (hx : ⟨p, k, x⟩ ∈ es) : Swaps p k (some x) none es (dropEntry p k es) :=
  fun h => ⟨⟨h.perm_at hx, .refl _⟩, h.drop p k⟩

namespace KeyView.Leads

variable {v : KeyView} {p : Port} {k t : Code} {c : Chan} {x : KeyTarget} {y : Option KeyTarget}
  {es' : List KeyEntry}

/-- A change that leaves buttons and the attention machine, where the table changes at one pair. -/
theorem of_swaps {w : KeyView} (sw : Swaps p k (some x) y v.entries w.entries)
    (hx : x ≠ .pendingTap) (ha : w.attention = v.attention) (hb : w.buttons = v.buttons)
    (hc : v.Core → w.Core) (hB : v.ButtonsOk → w.ButtonsOk) : v.Leads w where
  frame h :=
    { attention := by simp [ha]
      pairs := fun e he => by
        obtain ⟨hsw, -⟩ := sw h.core.sorted
        rcases hsw.mem_pair he with he | ⟨rfl, rfl⟩
        · exact ⟨e, he, rfl, rfl⟩
        · exact ⟨_, hsw.mem_old.2 rfl, rfl, rfl⟩
      buttons := by simp [hb] }
  sound B h := ⟨hc h.core, h.tap.mono (by simp [ha])
    ((sw h.core.sorted).1.pendingKept (by simpa using hx)), fun hBt => hB (h.buttons hBt)⟩

theorem idle (sw : Swaps p k (some x) y v.entries es') (hx : x ≠ .pendingTap)
    (hxi : Idle (some x)) (hy : Idle y) : v.Leads (v.setEntries (es')) :=
  of_swaps sw hx rfl rfl (fun h => h.swapIdle (sw h.sorted).1 (sw h.sorted).2 hxi hy) id

theorem undeliver (sw : Swaps p k (some (.channel c (some t) .delivered)) y v.entries es')
    (hy : Idle y) :
    v.Leads (KeyView.setCounts (v.setEntries (es')) c (countDown t (v.counts c))) :=
  of_swaps sw (by simp) rfl rfl (fun h => h.undeliver (sw h.sorted).1 (sw h.sorted).2 hy) id

theorem deliver (sw : Swaps p k (some x) (some (.channel c (some t) .delivered)) v.entries es')
    (hx : x ≠ .pendingTap) (hxi : Idle (some x)) :
    v.Leads (KeyView.setCounts (v.setEntries (es')) c (countUp t (v.counts c))) :=
  of_swaps sw hx rfl rfl (fun h => h.deliver (sw h.sorted).1 (sw h.sorted).2 hxi) id

theorem joinKey (sw : Swaps p k (some x) (some (.channel c (some t) .queued)) v.entries es')
    (hx : x ≠ .pendingTap) (hxi : Idle (some x)) {i : HoldItem}
    (hi : i = .keyDown p k t true ∨ i = .modHandover p k t true)
    (room : (v.queue c).length + v.reserved c + 2 ≤ 32) :
    v.Leads (KeyView.setQueue (v.setEntries (es')) c (v.queue c ++ [i])
      (v.reserved c + 1)) :=
  of_swaps sw hx rfl rfl (fun h => h.joinKey (sw h.sorted).1 (sw h.sorted).2 hxi hi room)
    fun h => KeyView.ButtonsOk.snoc (v := v.setEntries es') h
      (by rcases hi with rfl | rfl <;> exact fun _ => rfl)

theorem unjoinKey (sw : Swaps p k (some (.channel c (some t) .queued)) y v.entries es')
    (hy : Idle y) :
    v.Leads (KeyView.setQueue (v.setEntries (es')) c
      ((v.queue c).map (HoldItem.forgetKey p k) ++ [.keyUp p k t false]) (v.reserved c - 1)) :=
  of_swaps sw (by simp) rfl rfl (fun h => h.unjoinKey (sw h.sorted).1 (sw h.sorted).2 hy)
    fun h => KeyView.ButtonsOk.unjoinKey (v := v.setEntries es') h p k t

/-- A change that leaves the tables and the attention machine. -/
theorem of_core {w : KeyView} (he : w.entries = v.entries) (ha : w.attention = v.attention)
    (hb : w.buttons = v.buttons) (hc : v.Core → w.Core) (hB : v.ButtonsOk → w.ButtonsOk) :
    v.Leads w where
  frame _ := ⟨by simp [ha], fun e h => ⟨e, he ▸ h, rfl, rfl⟩, by simp [hb]⟩
  sound B h := ⟨hc h.core, h.tap.mono (by simp [ha]) fun p k hk => he ▸ hk,
    fun hBt => hB (h.buttons hBt)⟩

/-- The record of a settled release of a key joins the queue (R15). -/
theorem settled (p : Port) (k t : Code)
    (room : v.queue c = [] ∨ (v.queue c).length + v.reserved c + 1 ≤ 32) :
    v.Leads (v.setQueue c (v.queue c ++ [.keyUp p k t true]) (v.reserved c)) :=
  of_core rfl rfl rfl
    (fun h => h.setQueue ((h.queues c).settled (.inl ⟨p, k, t, rfl⟩) (by
      rcases room with hq | hr
      · have := (h.queues c).reserved
        simp only [hq, List.countP_nil, List.length_nil] at this ⊢
        omega
      · exact hr)))
    fun h => h.snoc fun _ => rfl

/-- A tap joins the queue (R35). -/
theorem tap (p : Port) (k t : Code) (room : (v.queue c).length + v.reserved c + 2 ≤ 32) :
    v.Leads (v.setQueue c (v.queue c ++ [.keyDown p k t false] ++ [.keyUp p k t false])
      (v.reserved c)) :=
  of_core rfl rfl rfl (fun h => h.setQueue ((h.queues c).tap p k t room)) fun h => by
    refine h.setQueue fun b => ?_
    exact ((h c b).snoc rfl).snoc rfl

/-- A code pressed and released at once (R35). -/
theorem pressRelease (c : Chan) (t : Code) :
    v.Leads (v.setCounts c (countDown t (countUp t (v.counts c)))) :=
  of_core rfl rfl rfl
    (fun h => h.setCounts_same (((h.canonical c).countUp t).countDown t) fun j => by
      rw [countOf_countDown ((h.canonical c).countUp t), countOf_countUp]
      split <;> simp)
    id

end KeyView.Leads

/-! ## A contribution removed (R34, R36, R71) -/

theorem setTarget_setTarget (p : Port) (k : Code) (t u : KeyTarget) (es : List KeyEntry) :
    setTarget p k u (setTarget p k t es) = setTarget p k u es := by
  simp only [setTarget, List.map_map]
  congr 1
  funext e
  by_cases h : (e.port == p && e.code == k) = true
  · simp only [Function.comp, h, if_true]
  · simp only [Function.comp, if_neg h]

theorem dropEntry_setTarget (p : Port) (k : Code) (t : KeyTarget) (es : List KeyEntry) :
    dropEntry p k (setTarget p k t es) = dropEntry p k es := by
  induction es with
  | nil => rfl
  | cons a es ih =>
    by_cases ha : a.at p k
    · rw [setTarget_cons_at ha, dropEntry_cons_at (a := ⟨p, k, t⟩) ⟨rfl, rfl⟩, dropEntry_cons_at ha, ih]
    · rw [setTarget_cons_not_at ha, dropEntry_cons_not_at ha, dropEntry_cons_not_at ha, ih]

theorem State.dropKey_targetKey (s : State) (p : Port) (k : Code) (t : KeyTarget) :
    (s.targetKey p k t).dropKey p k = s.dropKey p k := by
  simp only [State.targetKey, State.dropKey, State.setEntries, dropEntry_setTarget]

/-- The target is the one a pair's entry has. -/
theorem mem_targetKey {s : State} {p : Port} {k : Code} {x : KeyTarget}
    (h : ⟨p, k, x⟩ ∈ s.router.entries) (y : KeyTarget) :
    ⟨p, k, y⟩ ∈ (s.targetKey p k y).router.entries :=
  List.mem_map.2 ⟨_, h, by simp⟩

@[simp] theorem entries_removeContribution (c : Chan) (p : Port) (k t : Code) (s : State) :
    (removeContribution c p k t s).router.entries = s.router.entries := by
  unfold removeContribution
  split
  · unfold releaseCode
    split <;> simp [lowerCode]
  · simp [settleKey, lowerCode]

/-- A DELIVERED key's contribution removed and the key CONSUMED (R36). -/
theorem Background.consumeDelivered {c : Chan} {p : Port} {k t : Code} {s : State}
    (h : ⟨p, k, .channel c (some t) .delivered⟩ ∈ s.router.entries) :
    Background s ((removeContribution c p k t s).targetKey p k .consumed) where
  quiet := (Quiet.removeContribution c p k t s).trans (.of_eq rfl rfl)
  console := by simp [State.targetKey]
  leads := by
    have step := KeyView.Leads.undeliver (v := s.view) (c := c) (t := t)
      (.setTarget (es := s.view.entries) h .consumed) (by simp [Idle])
    unfold removeContribution
    split
    · simpa using step
    · rcases view_placeSettled c (.keyUp p k t true) (lowerCode c t s) with hp | ⟨room, hp⟩
      · simpa [settleKey, hp] using step
      · have := KeyView.Leads.settled p k t
          (v := KeyView.setCounts (s.view.setEntries (setTarget p k .consumed s.view.entries))
            c (countDown t (s.view.counts c))) (c := c) (by simpa using room)
        have := step.trans this
        simpa [settleKey, hp] using this

/-- A QUEUED key becomes CONSUMED (R16). -/
theorem Background.consumeQueued {c : Chan} {p : Port} {k t : Code} {s : State}
    (h : ⟨p, k, .channel c (some t) .queued⟩ ∈ s.router.entries) :
    Background s (consumeQueued .settlement c p k t s) where
  quiet := Quiet.trans (t := s.targetKey p k .consumed) (.of_eq rfl rfl)
    ((Quiet.forgetKey c p k _).trans (.placeRelease c _ _))
  console := by simp [Machine.consumeQueued, State.targetKey, Machine.forgetKey]
  leads := by
    have := KeyView.Leads.unjoinKey (v := s.view) (c := c) (t := t)
      (.setTarget (es := s.view.entries) h .consumed) (by simp [Idle])
    simpa [Machine.consumeQueued] using this

/-- A key whose target did nothing becomes CONSUMED. -/
theorem Background.targetIdle {p : Port} {k : Code} {x y : KeyTarget} {s : State}
    (h : ⟨p, k, x⟩ ∈ s.router.entries) (hp : x ≠ .pendingTap) (hx : Idle (some x))
    (hy : Idle (some y)) : Background s (s.targetKey p k y) where
  quiet := Quiet.of_eq rfl rfl
  console := rfl
  leads := .idle (.setTarget h y) hp hx hy

end Sys2Proof.Machine
end

section
/-! Hand-over and settlement of modifiers, key-ups, taps and routed presses (R33 to R37, R71). -/

namespace Sys2Proof.Machine

/-! ## Hand-over (R37) -/

theorem Quiet.retargetKey (n : Chan) (p : Port) (k : Code) (s : State) :
    Quiet s (retargetKey n p k s) := by
  unfold Machine.retargetKey
  split
  · exact .of_eq rfl rfl
  · split
    · exact Quiet.trans (.of_eq rfl rfl) (.pressCode _ _ _)
    · dsimp only
      split
      all_goals exact (Quiet.placeDown _ _ _).trans (.of_eq rfl rfl)

theorem console_retargetKey (n : Chan) (p : Port) (k : Code) (s : State) :
    (retargetKey n p k s).console = s.console := by
  unfold retargetKey
  dsimp only
  repeat' split
  all_goals simp [State.targetKey]

/-- A modifier of the table, CONSUMED meanwhile, takes its place on the new channel (R37). -/
theorem leads_retargetKey {n : Chan} {p : Port} {k : Code} {x : KeyTarget} {s : State}
    (h : ⟨p, k, x⟩ ∈ s.router.entries) :
    (s.targetKey p k .consumed).view.Leads (retargetKey n p k s).view := by
  have swaps : ∀ y, Swaps p k (some .consumed) (some y) (s.targetKey p k .consumed).view.entries
      (setTarget p k y s.view.entries) := fun y => by
    have := Swaps.setTarget (mem_targetKey h .consumed) y
    rwa [show (s.targetKey p k .consumed).router.entries =
      setTarget p k .consumed s.view.entries from rfl, setTarget_setTarget] at this
  have hidle : Idle (some .consumed) := by simp [Idle]
  have blocked : ∀ y, Idle (some y) →
      (s.targetKey p k .consumed).view.Leads (s.targetKey p k y).view := fun y hy =>
    .idle (swaps y) (by simp) hidle hy
  unfold retargetKey
  split
  · exact blocked _ (by simp [Idle])
  · rename_i t _
    split
    · simpa using KeyView.Leads.deliver (c := n) (t := t) (swaps _) (by simp) hidle
    · dsimp only
      rcases placeDown_cases n (.modHandover p k t true) s with ⟨hr, room, hv⟩ | ⟨hr, hv⟩
      · rw [hr]
        have := KeyView.Leads.joinKey (c := n) (t := t) (swaps _) (by simp) hidle
          (.inr rfl) room.places
        simpa [hv] using this
      · rw [hr]
        simpa [hv] using blocked .consumed hidle

/-! ## Settlement (R71) -/

/-- What a settlement does to an entry of the old channel: it leads to CONSUMED, and a hand-over on from there. -/
theorem Background.handOver {handover : Bool} {n : Chan} {p : Port} {k : Code} {x : KeyTarget}
    {s s' : State} (hx : ⟨p, k, x⟩ ∈ s'.router.entries) (hq : Quiet s s')
    (hc : s'.console = s.console) (hl : s.view.Leads (s'.targetKey p k .consumed).view) :
    Background s (if handover then retargetKey n p k s' else s'.targetKey p k .consumed) := by
  split
  · exact ⟨hq.trans (.retargetKey n p k s'), (console_retargetKey n p k s').trans hc,
      hl.trans (leads_retargetKey hx)⟩
  · exact ⟨hq.trans (.of_eq rfl rfl), hc, hl⟩

theorem Background.settleModifier (handover : Bool) (o n : Chan) (s : State) (pk : Port × Code) :
    Background s (settleModifier handover o n s pk) := by
  unfold Machine.settleModifier
  split
  case h_2 => exact .refl s
  case h_1 p k c t st hfind =>
    obtain ⟨hmem, -⟩ := findEntry_eq_some hfind
    split
    case isFalse => exact .refl s
    case isTrue hc =>
      subst hc
      cases t with
      | none =>
        have hidle := Background.targetIdle hmem (y := .consumed) (by simp) (by simp [Idle])
          (by simp [Idle])
        cases st with
        | delivered => exact .handOver hmem (.refl s) rfl hidle.leads
        | queued => exact hidle
      | some t =>
        cases st with
        | delivered =>
          exact .handOver (by simpa using hmem) (.removeContribution c p k t s) (by simp)
            (Background.consumeDelivered hmem).leads
        | queued => exact .consumeQueued hmem

theorem Background.settleModifiers (cause : Cause) (o n : Chan) (s : State) :
    Background s (settleModifiers cause o n s) :=
  .foldl (Background.settleModifier _ o n) _ s

/-! ## Key-up (R34) -/

/-- An entry that does nothing goes. -/
theorem Background.dropIdle {p : Port} {k : Code} {x : KeyTarget} {s : State}
    (h : ⟨p, k, x⟩ ∈ s.router.entries) (hp : x ≠ .pendingTap) (hx : Idle (some x)) :
    Background s (s.dropKey p k) where
  quiet := Quiet.of_eq rfl rfl
  console := rfl
  leads := .idle (.drop h) hp hx (by simp [Idle])

/-- The withheld key's entry goes, and the tap goes on without it (R51). -/
theorem Background.dropPending {p : Port} {k : Code} {s : State}
    (h : ⟨p, k, .pendingTap⟩ ∈ s.router.entries) :
    Background s (tapReleased (s.dropKey p k)) where
  quiet := Quiet.trans (t := s.dropKey p k) (.of_eq rfl rfl) (by
    unfold tapReleased
    split
    · exact Quiet.of_eq rfl rfl
    · exact Quiet.refl _)
  console := by unfold tapReleased; split <;> rfl
  leads := by
    have hswap := Swaps.drop (es := s.view.entries) h
    have hview : ∃ a, (tapReleased (s.dropKey p k)).view =
        { s.view.setEntries (dropEntry p k s.view.entries) with attention := a } ∧
        ∀ k p, a ≠ .tapDown k p := by
      unfold tapReleased
      split
      · exact ⟨_, rfl, by simp⟩
      · rename_i hn
        exact ⟨s.attention, rfl, hn⟩
    obtain ⟨a, hv, ha⟩ := hview
    rw [hv]
    refine ⟨fun hs => ⟨fun j q hj => absurd hj (ha j q), fun e he => ?_, fun _ hb => hb⟩,
      fun B hs => ⟨?_, fun j q hj => absurd hj (ha j q), fun hB => hs.buttons hB⟩⟩
    · exact ⟨e, (mem_dropEntry.1 he).1, rfl, rfl⟩
    · obtain ⟨sw, hsorted⟩ := hswap hs.core.sorted
      exact { hs.core.swapIdle sw hsorted (by simp [Idle]) (by simp [Idle]) with }

theorem Background.keyUp (p : Port) (k : Code) (s : State) : Background s (keyUp p k s) := by
  unfold Machine.keyUp
  split
  · exact .refl s
  · rename_i e hfind
    obtain ⟨hmem, he⟩ := findEntry_eq_some hfind
    rw [he] at hmem
    obtain ⟨q, j, x⟩ := e
    dsimp only at hmem ⊢
    cases x with
    | pendingTap => exact .dropPending hmem
    | consumed => exact .dropIdle hmem (by simp) (by simp [Idle])
    | channel c t st =>
      cases t with
      | none => exact .dropIdle hmem (by simp) (by simp [Idle])
      | some t =>
        cases st with
        | queued =>
          refine ⟨(Quiet.forgetKey c p k s).trans ((Quiet.placeRelease c _ _).trans
            (.of_eq rfl rfl)), by simp [State.dropKey, forgetKey], ?_⟩
          have := KeyView.Leads.unjoinKey (v := s.view) (c := c) (t := t)
            (.drop (es := s.view.entries) hmem) (by simp [Idle])
          simpa using this
        | delivered =>
          have hmem' := mem_targetKey (s := removeContribution c p k t s) (p := p) (k := k)
            (by simpa using hmem) .consumed
          have := (Background.consumeDelivered hmem).trans
            (.dropIdle hmem' (by simp) (by simp [Idle]))
          rwa [State.dropKey_targetKey] at this

/-! ## Taps (R35) -/

/-- What a down item offered makes of the view (R12, R13): queued only with room, and otherwise nothing. -/
theorem offerDown_cases (c : Chan) (i : HoldItem) (s : State) :
    ((offerDown c i s).1 = .queued ∧ s.roomFor c ∧ (offerDown c i s).2.view =
        s.view.setQueue c (s.view.queue c ++ [i]) (s.view.reserved c + 1)) ∨
      ((offerDown c i s).1 = .deliver ∧ s.view.queue c = [] ∧ (offerDown c i s).2 = s) ∨
      (((offerDown c i s).1 = .refused ∨ (offerDown c i s).1 = .discarded) ∧
        (offerDown c i s).2.view = s.view) := by
  have queue : ∀ r : HoldDecision × State, r.1 = (queueDown c i s).1 →
      r.2.view = (queueDown c i s).2.view →
      (r.1 = .queued ∧ s.roomFor c ∧ r.2.view =
        s.view.setQueue c (s.view.queue c ++ [i]) (s.view.reserved c + 1)) ∨
      (r.1 = .deliver ∧ s.view.queue c = [] ∧ r.2 = s) ∨
      ((r.1 = .refused ∨ r.1 = .discarded) ∧ r.2.view = s.view) := fun r h1 h2 => by
    rw [h1, h2]
    rcases placeDown_cases c i s with ⟨hr, room, hv⟩ | ⟨hr, hv⟩
    · exact .inl ⟨by simp [queueDown, hr], room, hv⟩
    · exact .inr (.inr ⟨.inl (by simp [queueDown, hr]), hv⟩)
  unfold offerDown
  split
  · exact .inr (.inr ⟨.inr rfl, rfl⟩)
  · split
    · split
      · exact queue _ rfl (view_wakeRequest _ _)
      · exact .inr (.inr ⟨.inr rfl, view_latch ..⟩)
    · exact .inr (.inr ⟨.inr rfl, rfl⟩)
  · exact queue _ rfl rfl
  · split
    · rename_i hd
      refine .inr (.inl ⟨rfl, ?_, rfl⟩)
      simp only [State.deliverable, Bool.and_eq_true, List.isEmpty_iff] at hd
      exact hd.2
    · exact queue _ rfl rfl

theorem Background.deliverTap (c : Chan) (p : Port) (k : Code) (s : State) :
    Background s (deliverTap c p k s) := by
  unfold Machine.deliverTap
  split
  · exact .refl s
  · rename_i t _
    have hq := Quiet.offerDown c (.keyDown p k t false) s
    have hc : (offerDown c (.keyDown p k t false) s).2.console = s.console := by simp
    have hcases := offerDown_cases c (.keyDown p k t false) s
    generalize offerDown c (.keyDown p k t false) s = r at hcases hq hc
    obtain ⟨d, s1⟩ := r
    dsimp only at hcases hq hc
    rcases hcases with ⟨rfl, room, hv⟩ | ⟨rfl, -, rfl⟩ | ⟨rfl | rfl, hv⟩
    · refine ⟨hq.trans (.placeRelease c _ s1), by simpa using hc, ?_⟩
      have := KeyView.Leads.tap p k t room.places
      simpa [hv] using this
    · refine ⟨(Quiet.pressCode c t s1).trans (.releaseCode c t _), by simp, ?_⟩
      simpa using KeyView.Leads.pressRelease (v := s1.view) c t
    · exact .of_view hq hc hv
    · exact .of_view hq hc hv

theorem Background.lateTap (p : Port) (k : Code) (s : State) : Background s (lateTap p k s) := by
  unfold Machine.lateTap
  split
  · exact .refl s
  · exact .deliverTap _ p k s

end Sys2Proof.Machine
end

section
/-! Drains (R17), discards (R18), losses of a link (R10) and the Macro Player (chapter 05) in the background. -/

namespace Sys2Proof.Machine

/-! ## Drain and discard of a state (R17, R18) -/

theorem markKey_eq (c : Chan) (p : Port) (k : Code) (s : State) :
    markKey c p k s = s.setEntries (markEntries c p k s.router.entries) := by
  unfold markKey markEntries
  rcases findEntry p k s.router.entries with _ | ⟨q, j, _ | _ | ⟨d, t, _ | _⟩⟩ <;> try rfl
  by_cases hd : d = c <;> simp [hd] <;> rfl

@[simp] theorem view_markKey (c : Chan) (p : Port) (k : Code) (s : State) :
    (markKey c p k s).view = s.view.setEntries (markEntries c p k s.view.entries) := by
  rw [markKey_eq]
  rfl

theorem markButton_eq (c : Chan) (b : Button) (s : State) :
    markButton c b s = s.setButton b (markTarget c (nth s.pointer.buttons b)) := by
  have keep : s.setButton b (nth s.pointer.buttons b) = s := by
    simp only [State.setButton, put_nth_self]
  unfold markButton markTarget
  split
  · rename_i d hb
    by_cases hd : d = c
    · simp [hd, hb]
    · simp only [hb, hd, if_false, Option.some.injEq, ButtonTarget.channel.injEq, false_and]
      rw [← hb, keep]
  · rename_i hb
    rw [if_neg fun h => hb _ h, keep]

@[simp] theorem view_markButton (c : Chan) (b : Button) (s : State) :
    (markButton c b s).view = s.view.setButton b (markTarget c (s.view.buttons b)) := by
  rw [markButton_eq, view_setButton]
  rfl

@[simp] theorem view_drainItem (c : Chan) (s : State) (i : HoldItem) :
    (drainItem c s i).view = s.view.drained c i := by
  rcases i with ⟨p, k, t, _ | _⟩ | ⟨p, k, t, _ | _⟩ | ⟨b, _ | _⟩ | ⟨b, _ | _⟩ | ⟨p, k, t, _ | _⟩ <;>
    simp [drainItem, KeyView.drained]
  · exact (KeyView.setButton_self (s.view.setHeld c b true) b).symm
  · rfl

theorem view_foldl_drainItem (c : Chan) (q : List HoldItem) (s : State) :
    (q.foldl (drainItem c) s).view = q.foldl (KeyView.drained c) s.view := by
  induction q generalizing s with
  | nil => rfl
  | cons i q ih => rw [List.foldl_cons, List.foldl_cons, ih, view_drainItem]

@[simp] theorem view_emptyQueue (c : Chan) (s : State) :
    (emptyQueue c s).view = s.view.setQueue c [] 0 := view_setLink ..

@[simp] theorem view_drainItems (c : Chan) (s : State) :
    (drainItems c s).view = s.view.drain c := by
  rw [drainItems, view_foldl_drainItem, view_emptyQueue]
  rfl

theorem Quiet.drainItem (c : Chan) (s : State) (i : HoldItem) : Quiet s (drainItem c s i) := by
  have press : ∀ p k t (named : Bool), Quiet s (if named then markKey c p k (Machine.pressCode c t s)
      else Machine.pressCode c t s) := fun p k t named => by
    split
    · refine (Quiet.pressCode c t s).trans ?_
      unfold markKey
      repeat' split
      · exact .of_eq rfl rfl
      all_goals exact .refl _
    · exact .pressCode c t s
  have buttons : ∀ v, Quiet s (Machine.sendButtons c (s.setHeld c v)) := fun v =>
    Quiet.trans (t := s.setHeld c v) (.of_eq rfl rfl) (Background.sendButtons c _).quiet
  cases i with
  | keyDown p k t named => exact press p k t named
  | modHandover p k t named => exact press p k t named
  | keyUp p k t settled =>
    cases settled
    · exact .releaseCode c t s
    · exact .refl s
  | buttonDown b named =>
    cases named
    · exact buttons _
    · refine (buttons (put (s.held c) b true)).trans ?_
      show Quiet _ (markButton c b _)
      unfold markButton
      repeat' split
      · exact .of_eq rfl rfl
      all_goals exact .refl _
  | buttonUp b settled =>
    cases settled
    · exact buttons _
    · exact .refl s

theorem Background.drainItems (c : Chan) (s : State) : Background s (drainItems c s) where
  quiet := Quiet.trans (t := emptyQueue c s) (.setLink s id) (.foldl (.drainItem c) _ _)
  console := by
    have : ∀ q (u : State), (List.foldl (drainItem c) u q).console = u.console := fun q => by
      induction q with
      | nil => exact fun _ => rfl
      | cons i q ih => exact fun u => by rw [List.foldl_cons, ih, drainItem_console]
    exact this _ _
  leads := view_drainItems c s ▸ s.view.leads_drain c

theorem Background.drain (c : Chan) (s : State) : Background s (drain c s) :=
  (Background.fullStateReports c s).trans (.drainItems c _)

@[simp] theorem view_discardItem (s : State) (i : HoldItem) :
    (discardItem s i).view = s.view.discarded i := by
  rcases i with ⟨p, k, t, _ | _⟩ | ⟨p, k, t, _ | _⟩ | ⟨b, _ | _⟩ | ⟨b, _ | _⟩ | ⟨p, k, t, _ | _⟩ <;>
    simp [discardItem, KeyView.discarded]

@[simp] theorem view_discardQueue (c : Chan) (s : State) :
    (discardQueue c s).view = s.view.discard c := by
  have : ∀ (q : List HoldItem) (u : State), (q.foldl discardItem u).view = q.foldl KeyView.discarded u.view :=
    fun q => by
      induction q with
      | nil => exact fun _ => rfl
      | cons i q ih => exact fun u => by rw [List.foldl_cons, List.foldl_cons, ih, view_discardItem]
  rw [discardQueue, view_emptyQueue, this]
  rfl

/-- A discard leaves everything but the key-down table and the button table as it is. -/
theorem discardItem_frame (s : State) (i : HoldItem) : discardItem s i = { s with
    router := (discardItem s i).router, pointer := (discardItem s i).pointer } := by
  rcases i with ⟨p, k, t, _ | _⟩ | ⟨p, k, t, _ | _⟩ | ⟨b, _ | _⟩ | ⟨b, _ | _⟩ | ⟨p, k, t, _ | _⟩ <;> rfl

theorem foldl_discardItem_frame (q : List HoldItem) (s : State) : q.foldl discardItem s = { s with
    router := (q.foldl discardItem s).router, pointer := (q.foldl discardItem s).pointer } := by
  induction q generalizing s with
  | nil => rfl
  | cons i q ih =>
    rw [List.foldl_cons, ih, discardItem_frame s i]

theorem Background.discardQueue (c : Chan) (s : State) : Background s (discardQueue c s) where
  quiet := by
    refine Quiet.trans (t := (s.link c).queue.foldl discardItem s) ?_ (Quiet.setLink _ id)
    rw [foldl_discardItem_frame]
    exact .of_eq rfl rfl
  console := by
    rw [Machine.discardQueue, foldl_discardItem_frame]
    rfl
  leads := view_discardQueue c s ▸ s.view.leads_discard c

/-! ## The loss of a link (R10) -/

theorem view_loseKeys (c : Chan) (s : State) : (loseKeys c s).view =
    (s.view.setEntries (s.view.entries.map (consumeEntryOf c))).setCounts c [] := by
  simp [loseKeys]
  rfl

theorem view_loseButtons (c : Chan) (s : State) : (loseButtons c s).view =
    { s.view with
      buttons := fun b => consumeButtonOf c (s.view.buttons b)
      held := Function.update s.view.held c fun _ => false } := by
  have hb : nth (loseButtons c s).pointer.buttons =
      fun b => consumeButtonOf c (nth s.pointer.buttons b) := by
    funext b
    simp [loseButtons]
  have hh : (fun d => nth ((loseButtons c s).held d)) =
      Function.update (fun d => nth (s.held d)) c fun _ => false := by
    funext d
    show nth (nth (put s.pointer.held c noButtons) d) = _
    by_cases hd : d = c
    · subst hd
      funext b
      simp [noButtons]
    · simp [hd, nth_put_ne _ (Ne.symm hd), State.held]
  simp only [State.view, hb, hh]
  rfl

theorem view_playerLost (c : Chan) (s : State) : (playerLost c s).view =
    s.view.setPlayer (if s.view.player.map (·.1) = some c then none else s.view.player) := by
  have hplayer : s.serves c = true ↔ s.view.player.map (·.1) = some c := by
    unfold State.serves State.view
    cases s.player <;> simp [Player.served]
  unfold playerLost
  split
  · rename_i hs
    rw [if_pos (hplayer.1 hs)]
    simp
  · rename_i hs
    rw [if_neg (mt hplayer.2 hs)]
    rfl

theorem view_loseLink (c : Chan) (s : State) : (loseLink c s).view = s.view.lose c := by
  have hcand : ∀ u, (loseCandidate c u).view = u.view := fun u => by
    unfold loseCandidate
    repeat' split
    all_goals rfl
  have hleds : ∀ u : State, (ledsIfFocus c u).view = u.view := fun u => by
    unfold ledsIfFocus driveConsoleLeds drivePort
    repeat' split
    all_goals simp
  have halert : ∀ u : State, (loseAlert c u).view = u.view := fun u => by
    unfold loseAlert
    split <;> rfl
  simp only [loseLink, halert, State.setSlot, view_setMgmt, hleds, hcand, view_playerLost,
    view_loseButtons, view_loseKeys, view_latch, view_setLink]
  rfl

theorem Background.ledsIfFocus (c : Chan) (s : State) : Background s (ledsIfFocus c s) := by
  unfold Machine.ledsIfFocus
  split
  · exact .driveConsoleLeds s
  · exact .refl s

/-- Once the link of channel c is DETACHED, the rest of a loss is heard on ACTIVE links alone. -/
theorem Quiet.loseReset (c : Chan) (s : State) : Quiet (s.setLink c .reset) (loseLink c s) := by
  unfold Machine.loseLink
  dsimp only
  refine (Background.latch .linkDown _).quiet.trans ?_
  generalize latch .linkDown (s.setLink c .reset) = u
  refine Quiet.trans (t := loseButtons c (loseKeys c u)) (.of_eq rfl rfl) ?_
  refine Quiet.trans (t := playerLost c (loseButtons c (loseKeys c u))) ?_ ?_
  · unfold playerLost
    split
    · exact Quiet.trans (.of_eq rfl rfl) (Background.latch _ _).quiet
    · exact .refl _
  generalize playerLost c (loseButtons c (loseKeys c u)) = w
  refine Quiet.trans (t := loseCandidate c w) ?_ ?_
  · unfold loseCandidate
    repeat' split
    · exact .refl _
    · exact (Background.cancelDwell _).quiet
    · exact .refl _
  refine (Background.ledsIfFocus c _).quiet.trans ?_
  refine Quiet.trans (t := ((Machine.ledsIfFocus c (loseCandidate c w)).setSlot c none))
    (.of_eq rfl rfl) ?_
  unfold loseAlert
  split
  · exact .of_eq rfl rfl
  · exact .refl _

theorem Quiet.loseLink (c : Chan) (s : State) : Quiet s (loseLink c s) :=
  Quiet.trans (t := s.setLink c .reset) (.setLink s fun h => nomatch h) (.loseReset c s)

theorem console_loseLink (c : Chan) (s : State) : (loseLink c s).console = s.console := by
  unfold loseLink loseAlert ledsIfFocus loseCandidate playerLost
  dsimp only
  repeat' split
  all_goals simp [State.setSlot, loseButtons, loseKeys]

theorem Background.loseLink (c : Chan) (s : State) : Background s (loseLink c s) :=
  ⟨.loseLink c s, console_loseLink c s, view_loseLink c s ▸ s.view.leads_lose c⟩

/-! ## The Macro Player (R88 to R96) -/

theorem KeyView.Leads.playerEnd {v : KeyView} {c : Chan} {ks : List Code}
    (hp : v.player = some (c, ks)) : v.Leads (KeyView.setCounts (v.setPlayer none) c
      (ks.foldl (fun m k => countDown k m) (v.counts c))) :=
  .of_core rfl rfl rfl (fun h => h.playerEnd hp) id

@[simp] theorem view_lowerAll (c : Chan) (ks : List Code) (s : State) :
    (lowerAll c ks s).view =
      s.view.setCounts c (ks.foldl (fun m k => countDown k m) (s.view.counts c)) := by
  unfold lowerAll
  induction ks generalizing s with
  | nil => simp [KeyView.setCounts]
  | cons k ks ih => rw [List.foldl_cons, ih]; simp

/-- The codes lowered change the counts of one channel and nothing else. -/
theorem lowerAll_frame (c : Chan) (ks : List Code) (s : State) :
    lowerAll c ks s = s.setCounts c (ks.foldl (fun m k => countDown k m) (s.counts c)) := by
  unfold lowerAll
  induction ks generalizing s with
  | nil =>
    rw [List.foldl_nil, List.foldl_nil]
    simp only [State.setCounts, State.counts, put_nth_self]
  | cons k ks ih =>
    rw [List.foldl_cons, ih, List.foldl_cons]
    simp only [lowerCode, State.counts_setCounts_same]
    simp only [State.setCounts, put_put]

/-- The player gone, its codes lowered first: with the full report where the link is ACTIVE (R92). -/
theorem Background.stopPlayer {pl : Player} {s : State} (hp : s.player = some pl) :
    Background s (setPlayer none (lowerAll pl.chan pl.pressed s)) where
  quiet := by
    rw [lowerAll_frame]
    exact Quiet.of_eq rfl rfl
  console := by rw [lowerAll_frame]; rfl
  leads := by
    have := KeyView.Leads.playerEnd (v := s.view) (c := pl.chan) (ks := pl.pressed)
      (by simp [State.view, hp, Player.served])
    simpa using this

theorem setPlayer_offer (pl : Option Player) (c : Chan) (i : Interface) (b : List Byte)
    (s : State) : setPlayer pl (offer c i b s) = offer c i b (setPlayer pl s) := by
  by_cases h : (s.link c).state = .active
  · rw [offer_active h, offer_active (s := setPlayer pl s) h]
    rfl
  · rw [offer_silent h, offer_silent (s := setPlayer pl s) h]

theorem Background.endMacro (e : Event) (s : State) : Background s (endMacro e s) := by
  unfold Machine.endMacro
  split
  · exact .refl s
  · rename_i pl hp
    dsimp only
    split
    · rw [Machine.sendKeyboard, setPlayer_offer]
      exact (Background.stopPlayer hp).trans ((Background.offer _ _ _ _).trans
        ((Background.latch _ _).trans (.drain _ _)))
    · exact (Background.stopPlayer hp).trans (.latch _ _)

/-- The player's record changed without its channel and its pressed set. -/
theorem Background.setPlayer {pl pl' : Player} {s : State} (hp : s.player = some pl)
    (h : pl'.served = pl.served) : Background s (setPlayer (some pl') s) :=
  .of_eq rfl rfl rfl (by
    rw [view_setPlayer, Option.map_some, h, ← Option.map_some, ← hp]
    rfl)

theorem Background.advance (w i : Nat) (s : State) : Background s (advance w i s) := by
  unfold Machine.advance
  split
  · exact .refl s
  · rename_i pl hp
    split
    · exact .endMacro _ s
    · exact .setPlayer hp rfl

theorem Background.countSkipped (s : State) : Background s (countSkipped s) :=
  .of_eq rfl rfl rfl rfl

theorem Background.setTapHalf (h : Option Code) (s : State) : Background s (setTapHalf h s) := by
  unfold Machine.setTapHalf
  split
  · exact .refl s
  · rename_i pl hp
    exact .setPlayer hp rfl

theorem Background.playerPress {pl : Player} (k : Code) {s : State} (hp : s.player = some pl) :
    Background s (playerPress pl k s).2 := by
  unfold Machine.playerPress
  split
  · exact .refl s
  · rename_i hk
    split
    · exact .refl s
    · refine ⟨Quiet.trans (.of_eq rfl rfl) (Quiet.pressCode _ _ _), by simp, ?_⟩
      have hv : s.view.player = some (pl.chan, pl.pressed) := by
        simp [State.view, hp, Player.served]
      rw [view_pressCode]
      exact .of_core rfl rfl rfl (fun h => h.playerPress hv (by simpa using hk)) id

theorem Background.playerRelease {pl : Player} (k : Code) {s : State} (hp : s.player = some pl) :
    Background s (playerRelease pl k s) := by
  unfold Machine.playerRelease
  split
  · rename_i hk
    refine ⟨Quiet.trans (.of_eq rfl rfl) (Quiet.releaseCode _ _ _), by simp, ?_⟩
    have hv : s.view.player = some (pl.chan, pl.pressed) := by
      simp [State.view, hp, Player.served]
    rw [view_releaseCode]
    exact .of_core rfl rfl rfl (fun h => h.playerRelease hv (by simpa using hk)) id
  · exact .refl s

theorem Background.playStep {pl : Player} (st : MacroStep) {s : State} (hp : s.player = some pl) :
    Background s (playStep pl st s) := by
  unfold Machine.playStep
  dsimp only
  split
  · rename_i k
    have hb := Background.playerPress k hp
    split <;> rename_i h <;> rw [h] at hb
    · exact hb.trans ((Background.countSkipped _).trans (.advance _ _ _))
    · exact hb.trans (.advance _ _ _)
  · exact (Background.playerRelease _ hp).trans (.advance _ _ _)
  · rename_i k
    have hb := Background.playerPress k hp
    split <;> rename_i h <;> rw [h] at hb
    · exact hb.trans ((Background.countSkipped _).trans (.advance _ _ _))
    · exact hb.trans ((Background.setTapHalf _ _).trans (.advance _ _ _))
  · exact .advance _ _ s

theorem Background.stepExpiry {pl : Player} {s : State} (hp : s.player = some pl) :
    Background s (stepExpiry pl s) := by
  unfold Machine.stepExpiry
  repeat' split
  · exact (Background.playerRelease _ hp).trans
      ((Background.setTapHalf _ _).trans (.advance _ _ _))
  · exact .playStep _ hp
  · exact .endMacro _ s

/-- A player that begins holds nothing (R88). -/
theorem Background.beginMacro {s : State} (hp : s.player = none) (m : Fin 8) (c : Chan) (b : Bool)
    (r : State) : Background s (beginMacro (r.freshPlayer m c b) s) where
  quiet := Quiet.of_eq rfl rfl
  console := rfl
  leads := .of_core rfl rfl rfl (fun h => h.playerStart (by simp [State.view, hp]) c) id

theorem Background.startMacro (m : Fin 8) (c : Chan) (s : State) :
    Background s (startMacro m c s).2 := by
  have hw := Background.wakeRequest c s
  have hwp : ∀ hp : s.player = none, (Machine.wakeRequest c s).2.player = none := by simp
  unfold Machine.startMacro
  split
  · exact .refl s
  · rename_i hp
    have hwp := hwp hp
    split
    · exact .beginMacro hp m c true s
    · exact .latch _ s
    · split <;> rename_i h <;> rw [h] at hw hwp
      · exact hw.trans (.beginMacro hwp m c false s)
      · exact hw.trans (.latch _ _)
    · exact hw.trans (.beginMacro hwp m c false s)

theorem Background.playerSuspended (c : Chan) (s : State) :
    Background s (playerSuspended c s) := by
  unfold Machine.playerSuspended
  split
  · exact .refl s
  · rename_i pl hp
    dsimp only
    split
    · refine (Background.setPlayer (pl' := { pl with playing := false }) hp rfl).trans ?_
      split
      · exact (Background.wakeRequest c _).trans (.endMacro _ _)
      · exact .wakeRequest c _
    · exact .refl s

theorem Background.playerResumed (c : Chan) (s : State) : Background s (playerResumed c s) := by
  unfold Machine.playerResumed
  split
  · exact .refl s
  · rename_i pl hp
    split
    · exact .setPlayer hp rfl
    · exact .refl s

theorem Background.playerWakeFailed (c : Chan) (s : State) :
    Background s (playerWakeFailed c s) := by
  unfold Machine.playerWakeFailed
  split
  · exact .endMacro _ s
  · exact .refl s

end Sys2Proof.Machine
end

section
/-! Focus changes, glide, desk notices, layouts, frames and table writes in the background (chapters 04, 06, 07, 08). -/

namespace Sys2Proof.Machine

namespace Background

/-! ## Focus changes and glide (R70, R149 to R155) -/

theorem wakeOnFocus (n : Chan) (s : State) : Background s (wakeOnFocus n s).2 := by
  unfold Machine.wakeOnFocus
  split
  · exact wakeRequest n s
  · exact refl s

theorem settleFrom (cause : Cause) (o : Option Chan) (n : Chan) (s : State) :
    Background s (settleFrom cause o n s) := by
  unfold Machine.settleFrom
  split
  · exact refl s
  · exact settleModifiers cause _ n s

theorem focusSteps (cause : Cause) (n : Chan) (s : State) :
    Background s (focusSteps cause n s) := by
  unfold Machine.focusSteps
  have h1 : Background s (recordFocus n s) := setFocus _ s
  have h2 := h1.trans (settleFrom cause s.focus.channel n _)
  have h3 := h2.trans (cancelDwell _)
  have h4 := h3.trans (driveConsoleLeds _)
  have h5 := h4.trans (wakeOnFocus n _)
  exact h5.trans ((latch .focusChanged _).trans (requestCue _ _))

theorem glideRequest (n : Chan) (s : State) : Background s (glideRequest n s) := by
  unfold Machine.glideRequest
  split
  · exact focusSteps .glide n s
  · exact latch .glideBarrier s
  · exact refl s

theorem completeDwell (s : State) : Background s (completeDwell s) := by
  unfold Machine.completeDwell
  split
  · exact refl s
  · exact (cancelDwell s).trans (glideRequest _ _)

theorem startDwell (c : Chan) (s : State) : Background s (startDwell c s) := by
  have h : Background s (s.setFocus { s.focus with dwell := some ⟨c, s.tables.desk.dwell⟩ }) :=
    setFocus _ s
  unfold Machine.startDwell
  dsimp only
  split
  · exact h.trans (completeDwell _)
  · exact h

theorem pointerNotice (new : Option Chan) (s : State) : Background s (pointerNotice new s) := by
  have h := cancelDwell s
  unfold Machine.pointerNotice
  dsimp only
  repeat' split
  · exact h
  · exact h
  · exact h.trans (startDwell _ _)
  · exact h.trans (latch .glideBarrier _)
  · exact h

theorem pressNotice (c : Chan) (s : State) : Background s (pressNotice c s) := by
  unfold Machine.pressNotice
  repeat' split
  · exact refl s
  · exact completeDwell s
  · exact refl s

/-! ## Motion and the desk pointer (R138 to R144) -/

theorem deliverMotion (entered : Bool) (wheel pan : Int) (s : State) :
    Background s (deliverMotion entered wheel pan s) := by
  unfold Machine.deliverMotion
  repeat' split
  · exact refl s
  · exact refl s
  · exact (offer _ _ _ s).trans (setPointer _ rfl rfl)
  · exact refl s
  · exact refl s

theorem setPointerChannel (c : Option Chan) (s : State) : Background s (setPointerChannel c s) :=
  setPointer s rfl rfl

theorem takeOwner (s : State) : Background s (takeOwner s).2 := by
  unfold Machine.takeOwner
  split
  · exact refl s
  · exact (setPointerChannel _ s).trans (pointerNotice _ _)

theorem ownerAndPosition (s : State) : Background s (ownerAndPosition s) := by
  unfold Machine.ownerAndPosition
  dsimp only
  split
  · exact takeOwner s
  · exact (takeOwner s).trans (deliverMotion _ _ _ _)

theorem rehome (m : Monitor) (s : State) : Background s (rehome m s) := setPointer s rfl rfl

theorem park (s : State) : Background s (park s) := setPointer s rfl rfl

theorem rehomeOrPark (s : State) : Background s (rehomeOrPark s) := by
  unfold Machine.rehomeOrPark
  repeat' split
  · exact refl s
  · exact park s
  · exact rehome _ s
  · exact refl s
  · exact rehome _ s

theorem parkedWhileCaptive (s : State) : Background s (parkedWhileCaptive s) := by
  unfold Machine.parkedWhileCaptive
  split
  · exact (setPointerChannel none s).trans (pointerNotice none _)
  · exact refl s

theorem deskNotice (s : State) : Background s (deskNotice s) := by
  unfold Machine.deskNotice
  dsimp only
  split
  · exact (rehomeOrPark s).trans (parkedWhileCaptive _)
  · exact (rehomeOrPark s).trans (ownerAndPosition _)

theorem movePointer (dx dy : Int) (s : State) : Background s (movePointer dx dy s) :=
  setPointer s rfl rfl

theorem moveAndDeliver (sm : Sample) (s : State) : Background s (moveAndDeliver sm s) :=
  (movePointer sm.dx sm.dy s).trans ((takeOwner _).trans (deliverMotion _ _ _ _))

theorem captiveReport (f : Chan) (sm : Sample) (before : Vector Bool 5) (s : State) :
    Background s (captiveReport f sm before s) := by
  unfold Machine.captiveReport
  dsimp only
  split
  · exact offer _ _ _ s
  · exact refl s

/-! ## Layouts, frame starts and liveness (R105, R106, R114 to R118) -/

theorem latchRefusals (g x : Bool) (s : State) : Background s (latchRefusals g x s) := by
  unfold Machine.latchRefusals
  cases g <;> cases x
  · exact refl s
  · exact latch .mixRefused s
  · exact latch .layoutRefused s
  · exact (latch .layoutRefused s).trans (latch .mixRefused _)

theorem settleLayout (m : Monitor) (l : Layout) (o : Origin) (s : State) :
    Background s (settleLayout m l o s) := by
  unfold Machine.settleLayout
  dsimp only
  split
  · exact (setMonitorRun m _ s).trans (latch .layoutApplied _)
  · exact (setMonitorRun m _ s).trans (latchRefusals _ _ _)

theorem settleWaiting (m : Monitor) (s : State) : Background s (settleWaiting m s) := by
  unfold Machine.settleWaiting
  split
  · exact refl s
  · exact settleLayout m _ _ s

theorem placeLayout (m : Monitor) (l : Layout) (o : Origin) (s : State) :
    Background s (placeLayout m l o s) := by
  unfold Machine.placeLayout
  split
  · exact setMonitorRun m _ s
  · exact settleLayout m l o s

theorem placePart (n : Fin 16) (p : Preset) (s : State) (m : Monitor) :
    Background s (placePart n p s m) := by
  unfold Machine.placePart
  split
  · exact refl s
  · exact placeLayout m _ _ s

theorem recallPreset (n : Fin 16) (s : State) : Background s (recallPreset n s).2 := by
  unfold Machine.recallPreset
  dsimp only
  split
  · exact latchRefusals _ _ s
  · exact foldl (placePart n _) _ s

theorem setLayoutOn (m : Monitor) (l : Layout) (s : State) :
    Background s (setLayoutOn m l s).2 := by
  unfold Machine.setLayoutOn
  dsimp only
  split
  · exact placeLayout m l _ s
  · exact latchRefusals _ _ s

theorem fixPicture (m : Monitor) (s : State) : Background s (fixPicture m s) :=
  setMonitorRun m _ s

theorem beginFrame (m : Monitor) (s : State) : Background s (beginFrame m s) := by
  have h := (settleWaiting m s).trans (fixPicture m _)
  unfold Machine.beginFrame
  dsimp only
  split
  · exact h.trans (deskNotice _)
  · exact h

theorem becomeLive (m : Monitor) (s : State) : Background s (becomeLive m s) :=
  (beginFrame m s).trans (deskNotice _)

theorem ceaseLive (m : Monitor) (s : State) : Background s (ceaseLive m s) :=
  (settleWaiting m s).trans ((setMonitorRun m _ _).trans (deskNotice _))

theorem changeFocus (cause : Cause) (n : Chan) (s : State) :
    Background s (changeFocus cause n s) := by
  unfold Machine.changeFocus
  dsimp only
  split
  · exact (focusSteps cause n s).trans (ownerAndPosition _)
  · exact focusSteps cause n s

theorem requestFocus (cause : Cause) (n : Chan) (s : State) :
    Background s (requestFocus cause n s).2 := by
  unfold Machine.requestFocus
  split
  · exact changeFocus cause n s
  · exact refl s

/-! ## Table writes (R167) -/

theorem captiveChanged (before : Bool) (s : State) : Background s (captiveChanged before s) := by
  unfold Machine.captiveChanged
  repeat' split
  · exact ownerAndPosition s
  · exact cancelDwell s
  · exact refl s

theorem applyChannels (T : Tables) (s : State) : Background s (applyChannels T s) := by
  have h := (withTables T s).trans (captiveChanged s.captive _)
  unfold Machine.applyChannels
  dsimp only
  split
  · exact h.trans (deskNotice _)
  · exact h

theorem mismatchAt (old : Tables) (s : State) (h : Head) : Background s (mismatchAt old s h) := by
  unfold Machine.mismatchAt
  dsimp only
  repeat' split
  · exact refl s
  · exact latch .formatMismatch s
  · exact refl s

theorem applyHeads (T : Tables) (s : State) : Background s (applyHeads T s) :=
  (withTables T s).trans ((foldl (mismatchAt s.tables) _ _).trans (deskNotice _))

theorem retimeMonitor (before s : State) (m : Monitor) :
    Background s (retimeMonitor before s m) := by
  unfold Machine.retimeMonitor
  dsimp only
  repeat' split
  · exact beginFrame m s
  · exact refl s
  · exact ceaseLive m s
  · exact becomeLive m s
  · exact refl s

theorem applyMonitors (T : Tables) (s : State) : Background s (applyMonitors T s) :=
  (withTables T s).trans ((foldl (retimeMonitor s) _ _).trans (deskNotice _))

theorem applyDesk (T : Tables) (s : State) : Background s (applyDesk T s) := by
  unfold Machine.applyDesk
  dsimp only
  split
  · exact withTables T s
  · exact (withTables T s).trans ((setMgmt _ _).trans (alertWhenActive _))

theorem applyWrite (t : Table) (T : Tables) (s : State) : Background s (applyWrite t T s) := by
  unfold Machine.applyWrite
  split
  · exact applyChannels T s
  · exact applyHeads T s
  · exact applyMonitors T s
  · exact applyDesk T s
  · exact withTables T s

/-! ## Responses and the confirm window (R161, R164, R174 to R176) -/

theorem respond (c : Chan) (tag : Byte) (adjusted : Bool) (r : Reply) (s : State) :
    Background s (respond c tag adjusted r s) :=
  Background.trans (t := s.setSlot c _) (setMgmt _ s) (offer _ _ _ _)

theorem deferredOutcome (a : Awaits) (c : Chan) (r : Reply) (s : State) :
    Background s (deferredOutcome a c r s) := by
  unfold Machine.deferredOutcome
  repeat' split
  · exact refl s
  · exact respond c _ _ r s
  · exact refl s

theorem setConfirm (cf : Option Confirm) (s : State) : Background s (setConfirm cf s) :=
  setMgmt _ s

theorem takeConfirm (kind : ConfirmKind) (c : Chan) (f : Frame) (s : State) :
    Background s (takeConfirm kind c f s).2 := (setConfirm _ s).trans (requestCue .wait _)

theorem setPolicy (p : Policy) (s : State) : Background s (setPolicy p s) := setMgmt _ s

theorem applyConfirmed (cf : Confirm) (s : State) : Background s (applyConfirmed cf s).2 := by
  unfold Machine.applyConfirmed
  repeat' split
  · exact refl s
  · exact refl s
  · exact applyWrite .authority _ s
  · exact setPolicy _ s
  · exact refl s

theorem confirmPending (cf : Confirm) (s : State) : Background s (confirmPending cf s) :=
  (setConfirm none s).trans ((applyConfirmed cf _).trans
    ((latch .confirmDone _).trans (deferredOutcome _ _ _ _)))

theorem declinePending (cf : Confirm) (s : State) : Background s (declinePending cf s) :=
  (setConfirm none s).trans (deferredOutcome _ _ _ _)

theorem expirePending (cf : Confirm) (s : State) : Background s (expirePending cf s) :=
  (setConfirm none s).trans ((latch .confirmExpired _).trans
    ((requestCue .fail _).trans (deferredOutcome _ _ _ _)))

/-! ## Actions (R57 to R65) -/

theorem refuseAction (s : State) : Background s (refuseAction s) :=
  (requestCue .refused s).trans (latch .hotkeyRefused _)

/-- A request of the Matcher for a focus change, whatever it answers. -/
theorem ofRequest {n : Chan} {s t : State} {v : Verdict}
    (h : Machine.requestFocus .hotkey n s = (v, t)) : Background s t := by
  have := requestFocus .hotkey n s
  rwa [h] at this

theorem actSelect (arg : Option Chan) (s : State) : Background s (actSelect arg s).2 := by
  unfold Machine.actSelect
  repeat' split
  · exact refl s
  · exact refl s
  · exact refl s
  all_goals exact ofRequest (by assumption)

theorem actCycle (order : List Chan) (s : State) : Background s (actCycle order s).2 := by
  unfold Machine.actCycle
  repeat' split
  · exact refl s
  · exact refl s
  all_goals exact ofRequest (by assumption)

theorem actPin (s : State) : Background s (actPin s).2 := by
  unfold Machine.actPin
  dsimp only
  split
  · exact (setFocus _ s).trans (requestCue .switch _)
  · exact (cancelDwell s).trans ((setFocus _ _).trans (requestCue .switch _))

theorem actGlideToggle (s : State) : Background s (actGlideToggle s).2 := by
  unfold Machine.actGlideToggle
  dsimp only
  split
  · exact (cancelDwell s).trans ((setFocus _ _).trans (requestCue .switch _))
  · exact (setFocus _ s).trans (requestCue .switch _)

theorem actPreset (p : Fin 16) (s : State) : Background s (actPreset p s).2 := by
  have h := recallPreset p s
  unfold Machine.actPreset
  split <;> rename_i hr <;> rwa [hr] at h

theorem actWake (arg : Option Chan) (s : State) : Background s (actWake arg s).2 := by
  unfold Machine.actWake
  split
  · exact refl s
  · rename_i c _
    have h := wakeRequest c s
    split <;> rename_i hr <;> rw [hr] at h
    · exact h.trans (requestCue .wait _)
    all_goals exact h

theorem actWakeAll (s : State) : Background s (actWakeAll s).2 := by
  unfold Machine.actWakeAll
  split
  · exact refl s
  · exact (foldl (fun s c => wakeRequest c s) _ s).trans (requestCue .wait _)

theorem actPlay (m : Fin 8) (s : State) : Background s (actPlay m s).2 := by
  unfold Machine.actPlay
  split
  · exact refl s
  · rename_i c _
    have h := startMacro m c s
    split <;> rename_i hr <;> rwa [hr] at h

theorem actConfirm (s : State) : Background s (actConfirm s).2 := by
  unfold Machine.actConfirm
  split
  · exact refl s
  · exact confirmPending _ s

theorem actCancel (s : State) : Background s (actCancel s).2 := by
  unfold Machine.actCancel
  dsimp only
  refine Background.trans ?_ (endMacro .macroAborted _)
  split
  · exact refl s
  · exact declinePending _ s

theorem act (a : Action) (s : State) : Background s (act a s).2 := by
  cases a with
  | select c => exact actSelect c s
  | next => exact actCycle _ s
  | previous => exact actCycle _ s
  | pin => exact actPin s
  | glideToggle => exact actGlideToggle s
  | preset p => exact actPreset p s
  | wake c => exact actWake c s
  | wakeAll => exact actWakeAll s
  | play m => exact actPlay m s
  | confirm => exact actConfirm s
  | cancel => exact actCancel s

theorem dispatchAction (a : Action) (s : State) : Background s (dispatchAction a s) := by
  unfold Machine.dispatchAction
  dsimp only
  split
  · exact (act a s).trans (refuseAction _)
  · exact act a s

theorem chordMatch (p : Port) (k : Code) (s : State) : Background s (chordMatch p k s).2 := by
  unfold Machine.chordMatch
  split
  · exact dispatchAction _ s
  · exact refl s

end Background

end Sys2Proof.Machine
end

section
/-! Management requests, the store and the desk restart in the background (chapters 09 and 10). -/

namespace Sys2Proof.Machine

namespace Background

/-! ## Requests (R161, R162) -/

theorem request (cmd : Command) (c : Chan) (f : Frame) {work : State → Reply × State}
    (h : ∀ s, Background s (work s).2) (s : State) : Background s (request cmd c f work s) := by
  unfold Machine.request
  repeat' split
  · exact respond c _ _ _ s
  · exact (h s).trans (respond c _ _ _ _)
  · exact refl s

theorem whenOk (cmd : Command) (f : Frame) {work : State → Reply × State}
    (h : ∀ s, Background s (work s).2) (s : State) : Background s (whenOk cmd f work s).2 := by
  unfold Machine.whenOk
  split
  · exact h s
  · exact refl s

/-- A request whose work needs the frame's part of check 7. -/
theorem requestWhenOk (cmd : Command) (c : Chan) (f : Frame) {work : State → Reply × State}
    (h : ∀ s, Background s (work s).2) (s : State) :
    Background s (Machine.request cmd c f (Machine.whenOk cmd f work) s) :=
  request cmd c f (whenOk cmd f h) s

theorem tableRequest (cmd : Command) (c : Chan) (f : Frame)
    {work : Table → State → Reply × State} (h : ∀ t s, Background s (work t s).2) (s : State) :
    Background s (tableRequest cmd c f work s) :=
  requestWhenOk cmd c f (fun s => by
    split
    · exact refl s
    · exact h _ s) s

theorem workReadTable (t : Table) (f : Frame) (s : State) :
    Background s (workReadTable t f s).2 := by
  unfold Machine.workReadTable
  split <;> exact refl s

theorem workWriteTable (t : Table) (f : Frame) (s : State) :
    Background s (workWriteTable t f s).2 := by
  unfold Machine.workWriteTable
  split
  · exact refl s
  · exact applyWrite t _ s

theorem takeWriteTable (c : Chan) (f : Frame) (s : State) :
    Background s (takeWriteTable c f s) :=
  request .writeTable c f (fun s => by
    split
    · exact refl s
    · exact takeConfirm .authorityWrite c f s
    · exact workWriteTable _ f s) s

theorem setSave (sv : Option Save) (s : State) : Background s (setSave sv s) := setMgmt _ s

theorem workSelect (f : Frame) (s : State) : Background s (workSelect f s).2 := by
  unfold Machine.workSelect
  split
  · exact refl s
  · rename_i n _
    have h := requestFocus .management n s
    split <;> rename_i hr <;> rwa [hr] at h

theorem workRecallPreset (f : Frame) (s : State) : Background s (workRecallPreset f s).2 := by
  unfold Machine.workRecallPreset
  split
  · exact refl s
  · exact recallPreset _ s

theorem workSetLayout (f : Frame) (s : State) : Background s (workSetLayout f s).2 := by
  unfold Machine.workSetLayout
  split
  · exact setLayoutOn _ _ s
  · exact refl s

theorem workWake (f : Frame) (s : State) : Background s (workWake f s).2 := by
  unfold Machine.workWake
  split
  · exact refl s
  · exact wakeRequest _ s

theorem workPlayMacro (f : Frame) (s : State) : Background s (workPlayMacro f s).2 := by
  unfold Machine.workPlayMacro
  split
  · exact startMacro _ _ s
  · exact refl s

theorem workClearEvents (f : Frame) (s : State) : Background s (workClearEvents f s).2 := by
  unfold Machine.workClearEvents
  split
  · exact refl s
  · exact setMgmt _ s

/-! ## The store (R171) -/

theorem storeTable (sv : Save) (s : State) : Background s (storeTable sv s) :=
  of_eq rfl rfl rfl rfl

theorem tableWritten (sv : Save) (s : State) : Background s (tableWritten sv s) := by
  unfold Machine.tableWritten
  dsimp only
  split
  · exact (storeTable sv s).trans (setSave _ _)
  · exact (storeTable sv s).trans ((setSave none _).trans (deferredOutcome _ _ _ _))

theorem writeFailed (sv : Save) (s : State) : Background s (writeFailed sv s) :=
  Background.trans (t := storeUnknown sv.writing s) (of_eq rfl rfl rfl rfl)
    ((setSave none _).trans ((latch .storeFault _).trans (deferredOutcome _ _ _ _)))

end Background

/-! ## The desk restart (R179) -/

/-- The view of a desk that holds nothing. -/
def KeyView.empty : KeyView where
  entries := []
  counts _ := []
  queue _ := []
  reserved _ := 0
  buttons _ := none
  held _ _ := false
  player := none
  attention := .idle

theorem KeyView.empty_sound (B : Prop) : KeyView.empty.Sound B where
  core :=
    { sorted := .nil
      canonical := fun _ => ⟨.nil, by simp [empty]⟩
      queues := fun c => .empty (by simp [empty]) (by simp [empty])
      player := by simp [empty]
      counts := fun _ _ => rfl }
  tap := by simp [TapKept, empty]
  buttons _ c b := ⟨by simp [empty], by simp [empty], by simp [empty]⟩

theorem KeyView.leads_empty (v : KeyView) : v.Leads .empty where
  frame _ := ⟨by simp [empty], by simp [empty], by simp [empty]⟩
  sound B _ := empty_sound B

theorem KeyView.queue_discarded (v : KeyView) (i : HoldItem) :
    (v.discarded i).queue = v.queue ∧ (v.discarded i).reserved = v.reserved := by
  rcases i with ⟨_, _, _, _ | _⟩ | ⟨_, _, _, _ | _⟩ | ⟨_, _ | _⟩ | ⟨_, _ | _⟩ | ⟨_, _, _, _ | _⟩ <;>
    exact ⟨rfl, rfl⟩

theorem KeyView.queue_foldl_discarded (q : List HoldItem) (v : KeyView) :
    (q.foldl KeyView.discarded v).queue = v.queue ∧
      (q.foldl KeyView.discarded v).reserved = v.reserved := by
  induction q generalizing v with
  | nil => exact ⟨rfl, rfl⟩
  | cons i q ih =>
    obtain ⟨hq, hr⟩ := ih (v.discarded i)
    obtain ⟨iq, ir⟩ := v.queue_discarded i
    exact ⟨hq.trans iq, hr.trans ir⟩

/-- A discard empties the queue of one channel (R18). -/
theorem KeyView.queue_discard (v : KeyView) (c : Chan) :
    (v.discard c).queue = Function.update v.queue c [] ∧
      (v.discard c).reserved = Function.update v.reserved c 0 := by
  obtain ⟨hq, hr⟩ := KeyView.queue_foldl_discarded (v.queue c) v
  simp [KeyView.discard, KeyView.setQueue, hq, hr]

theorem mem_allChans (c : Chan) : c ∈ allChans := by
  revert c
  decide

theorem queue_discardAll (cs : List Chan) (s : State) (c : Chan)
    (h : c ∈ cs ∨ s.view.queue c = [] ∧ s.view.reserved c = 0) :
    (cs.foldl (fun s c => discardQueue c s) s).view.queue c = [] ∧
      (cs.foldl (fun s c => discardQueue c s) s).view.reserved c = 0 := by
  induction cs generalizing s with
  | nil => exact h.resolve_left (by simp)
  | cons d cs ih =>
    refine ih _ ?_
    obtain ⟨hq, hr⟩ := s.view.queue_discard d
    rw [view_discardQueue, hq, hr]
    by_cases hd : c = d
    · subst hd
      exact .inr (by simp)
    · exact h.imp (fun hm => (List.mem_cons.1 hm).resolve_left hd) fun he => by simpa [hd] using he

/-- The view of a desk with its tables, records and queues empty. -/
theorem view_eq_empty {s : State} (hr : s.router = .reset)
    (hb : s.pointer.buttons = Vector.replicate 5 none)
    (hh : s.pointer.held = Vector.replicate 8 noButtons) (hp : s.player = none)
    (ha : s.attention = .idle) (hq : ∀ c, s.view.queue c = [] ∧ s.view.reserved c = 0) :
    s.view = .empty := by
  have queue : s.view.queue = fun _ => [] := funext fun c => (hq c).1
  have reserved : s.view.reserved = fun _ => 0 := funext fun c => (hq c).2
  have counts : s.counts = fun _ => [] := funext fun c => by simp [State.counts, hr, Router.reset]
  have buttons : nth s.pointer.buttons = fun _ => none := funext fun b => by simp [hb]
  have held : (fun c => nth (s.held c)) = fun _ _ => false :=
    funext fun c => funext fun b => by simp [State.held, hh, noButtons]
  change (⟨s.router.entries, s.counts, s.view.queue, s.view.reserved, nth s.pointer.buttons,
    fun c => nth (s.held c), s.player.map Player.served, s.attention⟩ : KeyView) = .empty
  rw [queue, reserved, counts, buttons, held, hp, ha, hr]
  rfl

namespace Background

/-- What a restart clears (R43, R67, R83, R99, R123, R148), once no queue is left. -/
theorem cleared {s : State} (hq : ∀ c, s.view.queue c = [] ∧ s.view.reserved c = 0) :
    Background s (dropWaiting (restartFocus
      (Machine.setPlayer none (setAttention .idle (clearHeld s))))) where
  quiet := Quiet.of_eq rfl rfl
  console := rfl
  leads := by
    have h : (dropWaiting (restartFocus (Machine.setPlayer none
        (setAttention .idle (clearHeld s))))).view = .empty :=
      view_eq_empty rfl rfl rfl rfl rfl hq
    exact h ▸ s.view.leads_empty

theorem sendEmptyReports (s : State) (c : Chan) : Background s (sendEmptyReports s c) :=
  (sendKeyboard c s).trans (sendButtons c _)

theorem restartBlocks (s : State) : Background s (restartBlocks s) :=
  (foldl (fun s c => discardQueue c s) allChans s).trans
    ((cleared fun c => queue_discardAll allChans s c (.inl (mem_allChans c))).trans
      ((foldl sendEmptyReports allChans _).trans (driveConsoleLeds _)))

theorem declineAny (s : State) : Background s (declineAny s) := by
  unfold Machine.declineAny
  split
  · exact refl s
  · exact declinePending _ s

theorem restartLatch (s : State) : Background s (restartLatch s) :=
  (setMgmt _ s).trans (latch .deskStart _)

theorem restartOwner (s : State) : Background s (restartOwner s).2 := by
  have h := setPointerChannel s.ownerOfPointer s
  unfold Machine.restartOwner
  repeat' split
  · exact refl s
  · dsimp only
    split
    · exact h
    · exact h.trans (deliverMotion _ _ _ _)

theorem restart (s : State) : Background s (restart s).2 :=
  (declineAny s).trans ((restartLatch _).trans ((restartBlocks _).trans (restartOwner _)))

theorem restartNotice (due : Bool) (s : State) : Background s (restartNotice due s) := by
  unfold Machine.restartNotice
  split
  · exact pointerNotice _ s
  · exact refl s

theorem takeDeskRestart (c : Chan) (f : Frame) (s : State) :
    Background s (takeDeskRestart c f s) := by
  unfold Machine.takeDeskRestart
  split
  · exact (restart s).trans ((respond c _ _ _ _).trans (restartNotice _ _))
  · exact request .deskRestart c f refl s

/-! ## The commands -/

theorem takeCommand (cmd : Command) (c : Chan) (f : Frame) (s : State) :
    Background s (takeCommand cmd c f s) := by
  cases cmd with
  | identify => exact requestWhenOk .identify c f refl s
  | readTable => exact tableRequest .readTable c f (fun t => workReadTable t f) s
  | writeTable => exact takeWriteTable c f s
  | lockTable => exact tableRequest .lockTable c f (fun _ s => setMgmt _ s) s
  | signTable => exact tableRequest .signTable c f (fun _ => refl) s
  | saveStore => exact requestWhenOk .saveStore c f (fun s => setSave _ s) s
  | setPolicy => exact request .setPolicy c f (takeConfirm .setPolicy c f) s
  | select => exact requestWhenOk .select c f (workSelect f) s
  | recallPreset => exact requestWhenOk .recallPreset c f (workRecallPreset f) s
  | setLayout => exact requestWhenOk .setLayout c f (workSetLayout f) s
  | wake => exact requestWhenOk .wake c f (workWake f) s
  | playMacro => exact requestWhenOk .playMacro c f (workPlayMacro f) s
  | readState => exact requestWhenOk .readState c f refl s
  | readEvents => exact requestWhenOk .readEvents c f (fun s => setMgmt _ s) s
  | clearEvents => exact requestWhenOk .clearEvents c f (workClearEvents f) s
  | deskRestart => exact takeDeskRestart c f s

theorem takeReport (c : Chan) (report : List Byte) (s : State) :
    Background s (takeReport c report s) := by
  unfold Machine.takeReport
  repeat' split
  · exact respond c _ _ _ s
  · exact respond c _ _ _ s
  · exact takeCommand _ c _ s
  · exact refl s

end Background

end Sys2Proof.Machine
end

section
/-! Heads, monitors, links and resets: what they send, and that they keep the discipline (chapters 01 and 06). -/

namespace Sys2Proof.Machine

namespace Background

/-! ## Heads and monitors (R101, R102, R105) -/

theorem changeSignal (h : Head) (d : Option (Nat × Nat)) (s : State) :
    Background s (changeSignal h d s) := by
  have h1 : Background s (Machine.latch .headChanged (s.setHead h d)) :=
    Background.trans (t := s.setHead h d) (of_eq rfl rfl rfl rfl) (latch _ _)
  unfold Machine.changeSignal
  dsimp only
  split
  · exact h1.trans (latch .formatMismatch _)
  · exact h1

theorem changeSink (m : Monitor) (connected : Bool) (s : State) :
    Background s (changeSink m connected s) := by
  have h1 := (setMonitorRun m { s.monitorRun m with connected := connected } s).trans
    (latch .monitorChanged _)
  unfold Machine.changeSink
  dsimp only
  repeat' split
  · exact h1.trans (becomeLive m _)
  · exact h1.trans (ceaseLive m _)
  · exact h1

/-! ## Links (R5, R8, R9, R19) -/

theorem suspendLink (c : Chan) (s : State) : Background s (suspendLink c s) :=
  (setLink (c := c) (l := { s.link c with
    state := .suspended, permission := (s.link c).remoteWake }) s
      (fun h => nomatch h) rfl rfl).trans ((latch .suspended _).trans (playerSuspended c _))

theorem failWake (c : Chan) (s : State) : Background s (failWake c s) :=
  (setLink (c := c) (l := { s.link c with state := .suspended, window := none, tries := 0 }) s
    (fun h => nomatch h) rfl rfl).trans ((discardQueue c _).trans
      ((latch .wakeFailed _).trans ((requestCue .fail _).trans (playerWakeFailed c _))))

theorem setLeds (c : Chan) (lamps : BitVec 5) (s : State) :
    Background s (Machine.ledsIfFocus c (s.setLink c { s.link c with leds := lamps })) :=
  (setLink (c := c) (l := { s.link c with leds := lamps }) s id rfl rfl).trans
    (ledsIfFocus c _)

end Background

/-! ## A link that becomes ACTIVE (R4, R6) -/

/-- A change that may make channel c's link ACTIVE and report on it, and is in the background otherwise. -/
structure Raising (c : Chan) (s t : State) : Prop where
  quiet : ∀ d, d ≠ c → QuietFor d s t
  console : t.console = s.console
  leads : s.view.Leads t.view

theorem Background.raising (c : Chan) {s t : State} (h : Background s t) : Raising c s t :=
  ⟨fun d _ => h.quiet d, h.console, h.leads⟩

theorem Raising.trans {c : Chan} {s t u : State} (h : Raising c s t) (k : Raising c t u) :
    Raising c s u :=
  ⟨fun d hd => (h.quiet d hd).trans (k.quiet d hd), k.console.trans h.console,
    h.leads.trans k.leads⟩

/-- A link set with the queue it has. -/
theorem Raising.setLink {c : Chan} {l : Link} (s : State) (hq : l.queue = (s.link c).queue)
    (hr : l.reserved = (s.link c).reserved) : Raising c s (s.setLink c l) where
  quiet d hd := .of_sent_eq rfl fun h => by rwa [State.link_setLink, if_neg (Ne.symm hd)]
  console := rfl
  leads := by
    have : (s.setLink c l).view = s.view := by
      rw [view_setLink, hq, hr]
      exact KeyView.setQueue_self s.view c
    exact this ▸ .refl _

theorem Raising.bringUp (c : Chan) (s : State) : Raising c s (bringUp c s) :=
  (Raising.setLink (l := { s.link c with
    state := .active, leds := 0, remoteWake := false, permission := false, tries := 0 })
      s rfl rfl).trans
    (((Background.ledsIfFocus c _).trans ((Background.latch .linkUp _).trans
      (.alertOnActive c _))).raising c)

theorem Raising.resumeLink (c : Chan) (s : State) : Raising c s (resumeLink c s) := by
  have up : Raising c s (playerResumed c (fullStateReports c (wakeUp c s))) :=
    (Raising.setLink (l := { s.link c with
      state := .active, window := none, tries := 0, permission := false }) s rfl rfl).trans
      (((Background.latch .resumed _).trans ((Background.alertOnActive c _).trans
        ((Background.fullStateReports c _).trans (.playerResumed c _)))).raising c)
  unfold Machine.resumeLink
  dsimp only
  split
  · exact up
  · exact up.trans ((Background.drainItems c _).raising c)

/-! ## Power-on (R21) -/

theorem Background.powerOnLayout (s : State) (m : Monitor) : Background s (powerOnLayout s m) := by
  unfold Machine.powerOnLayout
  dsimp only
  repeat' split
  · exact .setMonitorRun m _ s
  · exact .setMonitorRun m _ s
  · exact (Background.setMonitorRun m _ s).trans (.latchRefusals _ _ _)

theorem Background.powerOnFrame (s : State) (m : Monitor) : Background s (powerOnFrame s m) := by
  unfold Machine.powerOnFrame
  split
  · exact .fixPicture m s
  · exact .refl s

theorem Background.latchStart (failed : Bool) (s : State) :
    Background s (latchStart failed s) := by
  unfold Machine.latchStart
  dsimp only
  split
  · exact (Background.latch .deskStart s).trans (.latch .storeFault _)
  · exact .latch .deskStart s

/-- After the power-on values are in place, the rest of a power-on is in the background. -/
theorem Background.powerOn (detect : Vector Bool 6) (s : State) :
    Background (powerOnBase detect (loadTables s.storeAtPowerOn) s) (powerOn detect s) := by
  unfold Machine.powerOn
  dsimp only
  generalize loadTables s.storeAtPowerOn = a
  refine (Background.latchStart a.failed _).trans ?_
  generalize Machine.latchStart a.failed (powerOnBase detect a s) = u
  exact (Background.foldl Background.powerOnLayout _ u).trans
    ((Background.foldl Background.powerOnFrame _ _).trans (.deskNotice _))

theorem link_powerOnBase (detect : Vector Bool 6) (a : Loaded) (s : State) (c : Chan) :
    (powerOnBase detect a s).link c = .reset := nth_replicate _ _

theorem view_powerOnBase (detect : Vector Bool 6) (a : Loaded) (s : State) :
    (powerOnBase detect a s).view = .empty :=
  view_eq_empty rfl rfl rfl rfl rfl fun c => by
    change ((powerOnBase detect a s).link c).queue = [] ∧
      ((powerOnBase detect a s).link c).reserved = 0
    rw [link_powerOnBase]
    exact ⟨rfl, rfl⟩

theorem Quiet.powerOn (detect : Vector Bool 6) (s : State) : Quiet s (powerOn detect s) :=
  Quiet.trans (t := powerOnBase detect (loadTables s.storeAtPowerOn) s)
    (fun c => .of_sent_eq rfl fun _ => by simp [link_powerOnBase, Link.reset])
    (Background.powerOn detect s).quiet

end Sys2Proof.Machine
end

section
/-! Key-downs: the routed entry (R33), the Matcher (R48 to R54) and the console keyboards (R23 to R26). -/

namespace Sys2Proof.Machine

/-! ## An entry put in place (R28, R33) -/

/-- A change that puts an entry at the pair (p, k), where what stood there did nothing. -/
structure KeyView.Puts (p : Port) (k : Code) (v w : KeyView) : Prop where
  entries : ∃ y, w.entries = putEntry ⟨p, k, y⟩ v.entries
  attention : ∀ j q, w.attention = .tapDown j q → v.attention = .tapDown j q
  buttons : w.buttons = v.buttons
  core : v.Core → Idle (targetAt p k v.entries) → w.Core
  buttonsOk : v.ButtonsOk → w.ButtonsOk

namespace KeyView.Puts

variable {v : KeyView} {p : Port} {k t : Code} {c : Chan}

theorem idle {y : KeyTarget} (hy : Idle (some y)) :
    v.Puts p k (v.setEntries (putEntry ⟨p, k, y⟩ v.entries)) where
  entries := ⟨y, rfl⟩
  attention _ _ := id
  buttons := rfl
  core h hx := h.swapIdle (h.sorted.swap_put p k y) (h.sorted.put _) hx hy
  buttonsOk := id

theorem deliver : v.Puts p k (KeyView.setCounts
    (v.setEntries (putEntry ⟨p, k, .channel c (some t) .delivered⟩ v.entries)) c
    (countUp t (v.counts c))) where
  entries := ⟨_, rfl⟩
  attention _ _ := id
  buttons := rfl
  core h hx := h.deliver (h.sorted.swap_put p k _) (h.sorted.put _) hx
  buttonsOk := id

theorem join (room : (v.queue c).length + v.reserved c + 2 ≤ 32) :
    v.Puts p k (KeyView.setQueue
      (v.setEntries (putEntry ⟨p, k, .channel c (some t) .queued⟩ v.entries)) c
      (v.queue c ++ [.keyDown p k t true]) (v.reserved c + 1)) where
  entries := ⟨_, rfl⟩
  attention _ _ := id
  buttons := rfl
  core h hx := h.joinKey (h.sorted.swap_put p k _) (h.sorted.put _) hx (.inl rfl) room
  buttonsOk h := h.setQueue (r := v.reserved c + 1) fun b => (h c b).snoc rfl

/-- The attention machine may go to IDLE as well. -/
theorem calm {w : KeyView} (h : v.Puts p k w) : v.Puts p k { w with attention := .idle } where
  entries := h.entries
  attention _ _ := fun hj => nomatch hj
  buttons := h.buttons
  core hv hx := { h.core hv hx with }
  buttonsOk := h.buttonsOk

end KeyView.Puts

theorem puts_routeKey (p : Port) (k : Code) (s : State) :
    s.view.Puts p k (routeKey p k s).view := by
  have consumed : Idle (some .consumed) := by simp [Idle]
  unfold routeKey
  dsimp only
  rw [view_putKey]
  unfold routeTarget
  split
  · exact .idle consumed
  · rename_i c _
    split
    · split
      · exact .idle consumed
      · exact .idle (by simp [Idle])
    · rename_i t _
      have hcases := offerDown_cases c (.keyDown p k t true) s
      generalize offerDown c (.keyDown p k t true) s = r at hcases
      obtain ⟨d, s1⟩ := r
      dsimp only at hcases
      rcases hcases with ⟨rfl, room, hv⟩ | ⟨rfl, -, rfl⟩ | ⟨rfl | rfl, hv⟩
      · simpa [hv] using KeyView.Puts.join (t := t) room.places
      · simpa using KeyView.Puts.deliver (v := s1.view) (t := t) (c := c)
      · simpa [hv] using KeyView.Puts.idle (v := s.view) (p := p) (k := k) consumed
      · simpa [hv] using KeyView.Puts.idle (v := s.view) (p := p) (k := k) consumed

theorem Quiet.routeKey (p : Port) (k : Code) (s : State) : Quiet s (routeKey p k s) := by
  have target : Quiet s (routeTarget p k s).2 := by
    unfold routeTarget
    split
    · exact .refl s
    · rename_i c _
      split
      · split <;> exact .refl s
      · rename_i t _
        have h := Quiet.offerDown c (.keyDown p k t true) s
        split <;> rename_i hr <;> rw [hr] at h
        · exact h.trans (.pressCode c t _)
        all_goals exact h
  exact target.trans (.of_eq rfl rfl)

theorem console_routeKey (p : Port) (k : Code) (s : State) :
    (routeKey p k s).console = s.console := by
  change (routeTarget p k s).2.console = s.console
  unfold routeTarget
  split
  · rfl
  · rename_i c _
    split
    · split <;> rfl
    · rename_i t _
      have h : (offerDown c (.keyDown p k t true) s).2.console = s.console := by simp
      split <;> rename_i hr <;> rw [hr] at h <;> simpa using h

/-! ## Tables within bounds -/

/-- A key-up takes the entry of its pair out of the table (R34). -/
theorem entries_keyUp (p : Port) (k : Code) (s : State) :
    (keyUp p k s).router.entries = dropEntry p k s.router.entries := by
  unfold keyUp
  split
  · rename_i hnone
    exact (dropEntry_of_absent (findEntry_eq_none.1 hnone)).symm
  · split
    · unfold tapReleased
      split <;> rfl
    · rfl
    · rfl
    · simp [State.dropKey, State.setEntries, forgetKey]
    · simp [State.dropKey, State.setEntries]

/-- The discipline over the view, with entries of some pairs and of some buttons only, and the ports as given. -/
structure Within (B : Prop) (con : Console) (keys : Port → Code → Prop) (bs : Button → Prop)
    (s : State) : Prop where
  sound : s.view.Sound B
  console : s.console = con
  keys : ∀ e ∈ s.view.entries, keys e.port e.code
  buttons : ∀ b, s.view.buttons b ≠ none → bs b

namespace Within

variable {B : Prop} {con : Console} {keys keys' : Port → Code → Prop} {bs bs' : Button → Prop}
  {s t : State} {p : Port} {k : Code}

theorem mono (h : Within B con keys bs s) (hk : ∀ p k, keys p k → keys' p k)
    (hb : ∀ b, bs b → bs' b) : Within B con keys' bs' s :=
  ⟨h.sound, h.console, fun e he => hk _ _ (h.keys e he), fun b hn => hb b (h.buttons b hn)⟩

theorem of_leads (h : Within B con keys bs s) (hc : t.console = s.console)
    (hl : s.view.Leads t.view) : Within B con keys bs t := by
  have frame := hl.frame ⟨h.sound.core, h.sound.tap, False.elim⟩
  refine ⟨hl.sound B h.sound, hc.trans h.console, fun e he => ?_,
    fun b hb => h.buttons b (frame.buttons b hb)⟩
  obtain ⟨a, ha, hp, hk⟩ := frame.pairs e he
  exact hp ▸ hk ▸ h.keys a ha

theorem background (h : Within B con keys bs s) (hb : Background s t) :
    Within B con keys bs t := h.of_leads hb.console hb.leads

/-- A pair outside the bounds has no entry. -/
theorem absent (h : Within B con keys bs s) (hk : ¬ keys p k) :
    targetAt p k s.view.entries = none := by
  have : findEntry p k s.view.entries = none :=
    findEntry_eq_none.2 fun e he ⟨hp, hc⟩ => hk (hp ▸ hc ▸ h.keys e he)
  simp [targetAt, this]

/-- A key-up takes its pair out (R34). -/
theorem keyUp (h : Within B con keys bs s) (p : Port) (k : Code) :
    Within B con (fun q j => keys q j ∧ ¬ (q = p ∧ j = k)) bs (keyUp p k s) := by
  have hw := h.background (.keyUp p k s)
  refine ⟨hw.sound, hw.console, fun e he => ⟨hw.keys e he, fun ⟨hp, hk⟩ => ?_⟩, hw.buttons⟩
  have hm : e ∈ dropEntry p k s.router.entries := entries_keyUp p k s ▸ he
  exact (mem_dropEntry.1 hm).2 ⟨hp, hk⟩

/-- An entry put at a new pair, or at one whose entry did nothing. -/
theorem puts (h : Within B con keys bs s) (hc : t.console = s.console)
    (hp : s.view.Puts p k t.view) (hx : Idle (targetAt p k s.view.entries))
    (hpend : targetAt p k s.view.entries = some .pendingTap →
      ∀ k p, t.view.attention ≠ .tapDown k p) :
    Within B con (fun q j => keys q j ∨ q = p ∧ j = k) bs t := by
  obtain ⟨y, hy⟩ := hp.entries
  have sw := h.sound.core.sorted.swap_put p k y
  rw [← hy] at sw
  refine ⟨⟨hp.core h.sound.core hx, fun j q hj => ?_, fun hB => hp.buttonsOk (h.sound.buttons hB)⟩,
    hc.trans h.console, fun e he => ?_, fun b hb => h.buttons b (hp.buttons ▸ hb)⟩
  · refine sw.pendingKept (fun hx => hpend hx j q hj) q j (h.sound.tap j q ?_)
    rw [← hp.attention]
    exact hj
  · exact (sw.mem_pair he).imp (h.keys e) id

end Within

end Sys2Proof.Machine
end

section
/-! The Matcher's examination of a key-down (R48 to R54) and the console keyboards (R23 to R26) keep the discipline. -/

namespace Sys2Proof.Machine

/-- The attention machine leaves TAP_DOWN or stays out of it. -/
theorem Background.setAttention {a : Attention} (ha : ∀ k p, a ≠ .tapDown k p) (s : State) :
    Background s (setAttention a s) where
  quiet := Quiet.of_eq rfl rfl
  console := rfl
  leads :=
    { frame := fun _ => { KeyView.Frame.refl s.view with
        attention := fun k p hk => absurd hk (ha k p) }
      sound := fun _ h => ⟨{ h.core with }, fun k p hk => absurd hk (ha k p), h.buttons⟩ }

theorem Background.armedKey (p : Port) (k : Code) (s : State) :
    Background s (armedKey p k s).2 := by
  have h := Background.setAttention (a := .idle) (fun _ _ h => nomatch h) s
  unfold Machine.armedKey
  dsimp only
  split
  · exact h.trans (.dispatchAction _ _)
  · exact h.trans (.refuseAction _)

/-! ## Nothing is heard where a link is not ACTIVE (R3) -/

theorem Quiet.examine (p : Port) (k : Code) (s : State) : Quiet s (examine p k s).2 := by
  have idle : ∀ s, Quiet s (setAttention .idle s) := fun _ => .of_eq rfl rfl
  unfold Machine.examine
  split
  · unfold examineIdle
    split
    · exact .of_eq rfl rfl
    · exact (Background.chordMatch p k s).quiet
  · exact (Quiet.routeKey _ _ s).trans ((idle _).trans (Background.chordMatch p k _).quiet)
  · split
    · exact .of_eq rfl rfl
    · exact (Background.lateTap _ _ s).quiet.trans
        ((idle _).trans (Background.chordMatch p k _).quiet)
  · split
    · exact (Background.chordMatch p k s).quiet
    · exact (Background.armedKey p k s).quiet

theorem keyDown_consume {p : Port} {k : Code} {s t : State} (h : examine p k s = (.consume, t)) :
    keyDown p k s = t.putKey p k .consumed := by simp [keyDown, h]

theorem keyDown_withhold {p : Port} {k : Code} {s t : State}
    (h : examine p k s = (.withhold, t)) :
    keyDown p k s = t.putKey p k .pendingTap := by simp [keyDown, h]

theorem keyDown_decline {p : Port} {k : Code} {s t : State} (h : examine p k s = (.decline, t)) :
    keyDown p k s = routeKey p k t := by simp [keyDown, h]

theorem Quiet.keyDown (p : Port) (k : Code) (s : State) : Quiet s (keyDown p k s) := by
  have h := Quiet.examine p k s
  rcases hex : Machine.examine p k s with ⟨a, t⟩
  rw [hex] at h
  cases a with
  | consume => rw [keyDown_consume hex]; exact h.trans (.of_eq rfl rfl)
  | withhold => rw [keyDown_withhold hex]; exact h.trans (.of_eq rfl rfl)
  | decline => rw [keyDown_decline hex]; exact h.trans (.routeKey p k t)

theorem Quiet.takeKeys (p : Port) (ups downs : List Code) (s : State) :
    Quiet s (takeKeys p ups downs s) :=
  (Quiet.foldl (fun s k => (Background.keyUp p k s).quiet) ups s).trans
    (Quiet.foldl (fun s k => Quiet.keyDown p k s) downs _)

/-! ## Key-downs within bounds -/

/-- Only an attention key's own key-down is withheld (R50). -/
theorem chordMatch_not_withhold (p : Port) (k : Code) (s : State) :
    (chordMatch p k s).1 ≠ .withhold := by
  unfold chordMatch
  split <;> simp

namespace Within

variable {B : Prop} {con : Console} {keys : Port → Code → Prop} {bs : Button → Prop}
  {s t : State} {p : Port} {k : Code}

/-- The withheld tap is routed before another key is examined (R52). -/
theorem routeTap (h : Within B con keys bs s) {q : Port} {j : Code}
    (ha : s.attention = .tapDown j q) :
    Within B con keys bs (setAttention .idle (routeKey q j s)) := by
  have hmem : ⟨q, j, .pendingTap⟩ ∈ s.view.entries := h.sound.tap j q ha
  have hat : targetAt q j s.view.entries = some .pendingTap := by
    simp [targetAt, h.sound.core.sorted.findEntry_of_mem hmem]
  refine (h.puts (t := setAttention .idle (routeKey q j s)) (console_routeKey q j s)
    (puts_routeKey q j s).calm (by simp [hat, Idle]) fun _ _ _ e => nomatch e).mono
    (fun a b hab => hab.elim id fun ⟨ha, hb⟩ => ?_) fun _ => id
  exact ha ▸ hb ▸ h.keys _ hmem

/-- What the examination of a key-down answers and leaves (R50 to R54). -/
theorem examine (h : Within B con keys bs s) (p : Port) (k : Code) :
    (examine p k s).1 ≠ .withhold ∧ Within B con keys bs (examine p k s).2 ∨
      examine p k s = (.withhold, setAttention (.tapDown k p) s) := by
  have chord : ∀ {t}, Within B con keys bs t → (chordMatch p k t).1 ≠ .withhold ∧
      Within B con keys bs (chordMatch p k t).2 := fun ht =>
    ⟨chordMatch_not_withhold p k _, ht.background (.chordMatch p k _)⟩
  unfold Machine.examine
  split
  · unfold examineIdle
    split
    · exact .inr rfl
    · exact .inl (chord h)
  · exact .inl (chord (h.routeTap (by assumption)))
  · split
    · exact .inl ⟨by simp, h.background (.setAttention (by simp) s)⟩
    · exact .inl (chord ((h.background (.lateTap _ _ s)).background
        (.setAttention (by simp) _)))
  · split
    · exact .inl (chord h)
    · refine .inl ⟨?_, h.background (.armedKey p k s)⟩
      unfold armedKey
      dsimp only
      split <;> simp

/-- The entry of a withheld attention key (R50). -/
theorem withhold (h : Within B con keys bs s) (hk : ¬ keys p k) :
    Within B con (fun q j => keys q j ∨ q = p ∧ j = k) bs
      ((setAttention (.tapDown k p) s).putKey p k .pendingTap) := by
  have hx : Idle (targetAt p k s.view.entries) := by simp [h.absent hk, Idle]
  have puts := KeyView.Puts.idle (v := s.view) (p := p) (k := k) (y := .pendingTap) (by simp [Idle])
  have sw := h.sound.core.sorted.swap_put p k .pendingTap
  refine ⟨⟨{ puts.core h.sound.core hx with }, fun j q hj => ?_, h.sound.buttons⟩, h.console,
    fun e he => (sw.mem_pair he).imp (h.keys e) id, h.buttons⟩
  obtain ⟨rfl, rfl⟩ : k = j ∧ p = q := Attention.tapDown.inj hj
  exact sw.mem_new.2 rfl

/-- A key-down of a key outside the bounds (R29). -/
theorem keyDown (h : Within B con keys bs s) (hk : ¬ keys p k) :
    Within B con (fun q j => keys q j ∨ q = p ∧ j = k) bs (keyDown p k s) := by
  rcases h.examine p k with ⟨hne, ht⟩ | hex
  · rcases hex : Machine.examine p k s with ⟨a, t⟩
    rw [hex] at hne ht
    have habs := ht.absent hk
    have hidle : Idle (targetAt p k t.view.entries) := by simp [habs, Idle]
    cases a with
    | consume =>
      rw [keyDown_consume hex]
      exact ht.puts rfl (.idle (by simp [Idle])) hidle (by simp [habs])
    | withhold => exact absurd rfl hne
    | decline =>
      rw [keyDown_decline hex]
      exact ht.puts (console_routeKey p k t) (puts_routeKey p k t) hidle (by simp [habs])
  · rw [keyDown_withhold hex]
    exact h.withhold hk

/-- Key-ups one by one (R24, R25). -/
theorem keyUps (h : Within B con keys bs s) (p : Port) (ks : List Code) :
    Within B con (fun q j => keys q j ∧ ¬ (q = p ∧ j ∈ ks)) bs
      (ks.foldl (fun s k => Machine.keyUp p k s) s) := by
  induction ks generalizing s keys with
  | nil => exact h.mono (by simp) fun _ => id
  | cons k ks ih =>
    refine (ih (h.keyUp p k)).mono (fun q j hq => ?_) fun _ => id
    simp only [List.mem_cons]
    tauto

/-- Key-downs one by one (R25). -/
theorem keyDowns (h : Within B con keys bs s) (p : Port) {ks : List Code} (hks : ks.Nodup)
    (hk : ∀ k ∈ ks, ¬ keys p k) :
    Within B con (fun q j => keys q j ∨ q = p ∧ j ∈ ks) bs
      (ks.foldl (fun s k => Machine.keyDown p k s) s) := by
  induction ks generalizing s keys with
  | nil => exact h.mono (by simp) fun _ => id
  | cons k ks ih =>
    obtain ⟨hnew, hks⟩ := List.nodup_cons.1 hks
    refine (ih (h.keyDown (hk k (by simp))) hks fun j hj hkj => ?_).mono (fun q j hq => ?_)
      fun _ => id
    · rcases hkj with hkj | ⟨-, rfl⟩
      · exact hk j (by simp [hj]) hkj
      · exact hnew hj
    · simp only [List.mem_cons]
      tauto

end Within

end Sys2Proof.Machine
end

section
/-! The console keyboard ports keep the discipline (R23 to R26). -/

namespace Sys2Proof.Machine

/-! ## The codes of a report (R25, R26) -/

theorem mem_insertCode {k j : Code} {l : List Code} : j ∈ insertCode k l ↔ j = k ∨ j ∈ l := by
  induction l with
  | nil => simp [insertCode]
  | cons a l ih =>
    unfold insertCode
    split
    · simp
    · split
      · rename_i h
        subst h
        simp
      · simp only [List.mem_cons, ih]
        tauto

theorem nodup_insertCode {k : Code} {l : List Code} (h : l.Pairwise (· < ·)) :
    (insertCode k l).Pairwise (· < ·) := by
  induction l with
  | nil => simp [insertCode]
  | cons a l ih =>
    obtain ⟨ha, hl⟩ := List.pairwise_cons.1 h
    unfold insertCode
    split
    · rename_i hk
      exact List.pairwise_cons.2 ⟨fun j hj => (List.mem_cons.1 hj).elim (fun e => e ▸ hk)
        fun hj => lt_trans hk (ha j hj), h⟩
    · split
      · exact h
      · rename_i hlt hne
        refine List.pairwise_cons.2 ⟨fun j hj => ?_, ih hl⟩
        rcases mem_insertCode.1 hj with rfl | hj
        · exact lt_of_le_of_ne (not_lt.1 hlt) (Ne.symm hne)
        · exact ha j hj

/-- An accepted report has no code twice (R25, R26). -/
theorem nodup_reportCodes {r : KeyboardBytes} (h : reportHeld r = false) :
    (reportCodes r).Nodup := by
  have ordinary : ∀ k ∈ slotCodes r, k ≠ 0 → isOrdinary k = true := by
    have := (Bool.or_eq_false_iff.1 h).1
    simpa using this
  have slots : ∀ l : List Code, (l.foldr insertCode []).Pairwise (· < ·) ∧
      ∀ k, k ∈ l.foldr insertCode [] → k ∈ l := fun l => by
    induction l with
    | nil => simp
    | cons a l ih =>
      exact ⟨nodup_insertCode ih.1, fun k hk =>
        (mem_insertCode.1 hk).elim (fun e => by simp [e]) fun hk => by simp [ih.2 k hk]⟩
  obtain ⟨hsorted, hmem⟩ := slots ((slotCodes r).filter (· != 0))
  refine List.nodup_append.2 ⟨hsorted.imp ne_of_lt, List.Nodup.filter _ (by decide), ?_⟩
  intro a ha b hb hab
  subst hab
  have hslot := List.mem_filter.1 (hmem a ha)
  have ho := ordinary a hslot.1 (by simpa using hslot.2)
  have hm : 224 ≤ a := by
    have := (List.mem_filter.1 hb).1
    simp only [List.mem_cons, List.not_mem_nil, or_false] at this
    rcases this with rfl | rfl | rfl | rfl | rfl | rfl | rfl | rfl <;> decide
  simp only [isOrdinary, Bool.and_eq_true, decide_eq_true_eq] at ho
  exact absurd (le_trans hm ho.2) (by decide)

/-! ## The discipline of a state -/

/-- The whole discipline of held keys, and that of button states where `B` asks for it. -/
structure Disciplined (B : Prop) (s : State) : Prop where
  sound : s.view.Sound B
  ports : PortsSound s

/-- The pairs and buttons of the last reports. -/
theorem Disciplined.within {B : Prop} {s : State} (h : Disciplined B s) :
    Within B s.console (fun p k => k ∈ (s.keyPort p).last)
      (fun b => nth s.console.ptr.last b = true) s :=
  ⟨h.sound, rfl, h.ports.keys, h.ports.buttons⟩

theorem State.keyPort_congr {s t : State} (h : t.console = s.console) (p : Port) :
    t.keyPort p = s.keyPort p := by cases p <;> simp [State.keyPort, h]

/-- Tables within the bounds of ports that are sound themselves. -/
theorem Within.disciplined {B : Prop} {con : Console} {keys : Port → Code → Prop}
    {bs : Button → Prop} {s t : State} (h : Within B con keys bs s) (hv : t.view = s.view)
    (ports : ∀ p, (t.keyPort p).state ≠ .active → (t.keyPort p).last = [])
    (hk : ∀ p k, keys p k → k ∈ (t.keyPort p).last)
    (pointer : t.console.ptr.state ≠ .active → t.console.ptr.last = noButtons)
    (hb : ∀ b, bs b → nth t.console.ptr.last b = true) : Disciplined B t where
  sound := hv ▸ h.sound
  ports := ⟨ports, fun e he => hk _ _ (h.keys e (hv ▸ he)), pointer,
    fun b hn => hb b (h.buttons b (hv ▸ hn))⟩

theorem Disciplined.of_leads {B : Prop} {s t : State} (h : Disciplined B s)
    (hc : t.console = s.console) (hl : s.view.Leads t.view) : Disciplined B t := by
  refine (h.within.of_leads hc hl).disciplined rfl ?_ ?_ ?_ ?_
  · simpa only [State.keyPort_congr hc] using h.ports.ports
  · simp only [State.keyPort_congr hc]; exact fun _ _ => id
  · rw [hc]; exact h.ports.pointer
  · rw [hc]; exact fun _ => id

theorem Disciplined.background {B : Prop} {s t : State} (h : Disciplined B s)
    (hb : Background s t) : Disciplined B t := h.of_leads hb.console hb.leads

/-! ## The keyboard ports (R23 to R25) -/

theorem State.ptr_setKeyPort (s : State) (p : Port) (k : KeyPort) :
    (s.setKeyPort p k).console.ptr = s.console.ptr := by cases p <;> rfl

@[simp] theorem view_setKeyPort (s : State) (p : Port) (k : KeyPort) :
    (s.setKeyPort p k).view = s.view := by cases p <;> rfl

theorem Quiet.setKeyPort (p : Port) (k : KeyPort) (s : State) : Quiet s (s.setKeyPort p k) := by
  cases p <;> exact .of_eq rfl rfl

/-- One keyboard port set to a record that is sound itself, where the table's entries of the port are within it and the
other ports are as they were in a sound state. -/
theorem Within.setKeyPort {B : Prop} {keys : Port → Code → Prop} {bs : Button → Prop}
    {s t : State} {con : Console} (ht : Within B con keys bs t) (hs : PortsSound s)
    {p : Port} {k : KeyPort} (hcon : ∀ q, q ≠ p → t.keyPort q = s.keyPort q)
    (hptr : t.console.ptr = s.console.ptr) (port : k.state ≠ .active → k.last = [])
    (hk : ∀ j, keys p j → j ∈ k.last) (hother : ∀ q j, q ≠ p → keys q j → j ∈ (s.keyPort q).last)
    (hb : ∀ b, bs b → nth s.console.ptr.last b = true) :
    Disciplined B (t.setKeyPort p k) := by
  refine ht.disciplined (by simp) (fun q => ?_) (fun q j hj => ?_) ?_ ?_
  · rw [State.keyPort_setKeyPort]
    split
    · exact port
    · rename_i hq
      rw [hcon q (Ne.symm hq)]
      exact hs.ports q
  · rw [State.keyPort_setKeyPort]
    split
    · rename_i hq
      exact hk j (hq ▸ hj)
    · rename_i hq
      rw [hcon q (Ne.symm hq)]
      exact hother q j (Ne.symm hq) hj
  · rw [State.ptr_setKeyPort, hptr]; exact hs.pointer
  · rw [State.ptr_setKeyPort, hptr]; exact hb

theorem Disciplined.setKeyPort {B : Prop} {s : State} (h : Disciplined B s) {p : Port}
    {k : KeyPort} (hp : (s.keyPort p).last = []) (hk : k.state ≠ .active → k.last = []) :
    Disciplined B (s.setKeyPort p k) :=
  h.within.setKeyPort h.ports (fun _ _ => rfl) rfl hk (fun j hj => by simp [hp] at hj)
    (fun _ _ _ => id) fun _ => id

theorem Disciplined.attachKeyboard {B : Prop} {s : State} (h : Disciplined B s) {p : Port}
    (hp : (s.keyPort p).state = .absent) (boot : Bool) :
    Disciplined B (attachKeyboard p boot s) := by
  have hlast : (s.keyPort p).last = [] := h.ports.ports p (by simp [hp])
  unfold Machine.attachKeyboard
  split
  · exact (h.setKeyPort hlast (by simp)).background (.drivePort p _)
  · exact h.setKeyPort hlast fun _ => hlast

theorem Quiet.attachKeyboard (p : Port) (boot : Bool) (s : State) :
    Quiet s (attachKeyboard p boot s) := by
  unfold Machine.attachKeyboard
  split
  · exact (Quiet.setKeyPort p _ s).trans (Background.drivePort p _).quiet
  · exact .setKeyPort p _ s

theorem mem_codesOf {s : State} {p : Port} {k : Code} :
    k ∈ s.codesOf p ↔ ∃ e ∈ s.router.entries, e.at p k := by
  simp [State.codesOf, KeyEntry.at, and_assoc]

/-- A detach takes out every entry of its port (R24). -/
theorem Disciplined.detachKeyboard {B : Prop} {s : State} (h : Disciplined B s) (p : Port) :
    Disciplined B (detachKeyboard p s) := by
  have start : Within B (s.setKeyPort p { s.keyPort p with state := .absent }).console
      (fun q j => ∃ e ∈ s.router.entries, e.at q j) (fun b => nth s.console.ptr.last b = true)
      (s.setKeyPort p { s.keyPort p with state := .absent }) :=
    ⟨by simpa using h.sound, rfl,
      fun e he => ⟨e, (view_setKeyPort s p _ ▸ he : e ∈ s.view.entries), rfl, rfl⟩,
      fun b hb => h.ports.buttons b (view_setKeyPort s p _ ▸ hb : s.view.buttons b ≠ none)⟩
  unfold Machine.detachKeyboard
  dsimp only
  have ups := start.keyUps p
    ((s.setKeyPort p { s.keyPort p with state := .absent }).codesOf p)
  refine ups.setKeyPort h.ports (fun q hq => ?_) ?_ (fun _ => rfl) (fun j ⟨he, hj⟩ => ?_)
    (fun q j _ ⟨⟨e, he, hq, hj⟩, _⟩ => hq ▸ hj ▸ h.ports.keys e he) fun _ => id
  · rw [State.keyPort_congr (ups.console), State.keyPort_setKeyPort, if_neg (Ne.symm hq)]
  · rw [ups.console, State.ptr_setKeyPort]
  · exact absurd ⟨rfl, mem_codesOf.2 (by simpa using he)⟩ hj

theorem Quiet.detachKeyboard (p : Port) (s : State) : Quiet s (detachKeyboard p s) :=
  (Quiet.setKeyPort p _ s).trans ((Quiet.foldl (fun s k => (Background.keyUp p k s).quiet) _ _).trans
    (.setKeyPort p _ _))

/-- An accepted report leaves entries of its own codes alone (R25). -/
theorem Disciplined.acceptReport {B : Prop} {s : State} (h : Disciplined B s) {p : Port}
    (hp : (s.keyPort p).state = .active) {codes : List Code} (hcodes : codes.Nodup) :
    Disciplined B (acceptReport p codes s) := by
  have ups := h.within.keyUps p ((s.keyPort p).last.filter fun k => !codes.contains k)
  have downs := ups.keyDowns p (ks := codes.filter fun k => !(s.keyPort p).last.contains k)
    (hcodes.filter _) fun k hk hkeys => by
      have := (List.mem_filter.1 hk).2
      simp_all
  unfold Machine.acceptReport
  dsimp only
  refine Within.setKeyPort (t := takeKeys p _ _ s) downs h.ports
    (fun q _ => State.keyPort_congr downs.console q) (by rw [← downs.console]; rfl) (fun hn => ?_)
    (fun j hj => ?_) (fun q j hq hj => ?_) fun _ => id
  · exact absurd ((congrArg KeyPort.state (State.keyPort_congr downs.console p)).trans hp) hn
  · simp only [List.mem_filter] at hj
    rcases hj with ⟨hlast, hj⟩ | ⟨-, hj, -⟩
    · by_contra hc
      simp_all
    · exact hj
  · exact hj.elim (·.1) fun ⟨hqp, _⟩ => absurd hqp hq

theorem Quiet.acceptReport (p : Port) (codes : List Code) (s : State) :
    Quiet s (acceptReport p codes s) :=
  (Quiet.takeKeys p _ _ s).trans (.setKeyPort p _ _)

end Sys2Proof.Machine
end

section
/-! Buttons and samples keep the discipline (R76, R77, R138, R140, R141), and the pointer port (R124 to R126). -/

namespace Sys2Proof.Machine

@[simp] theorem view_forgetButton (c : Chan) (b : Button) (s : State) :
    (forgetButton c b s).view = s.view.setQueue c
      ((s.view.queue c).map (HoldItem.forgetButton b)) (s.view.reserved c) := view_setLink ..

/-! ## Releases (R141) -/

namespace KeyView.Leads

variable {v w : KeyView} {b : Button} {c : Chan}

/-- A change that leaves the keys' table and the attention machine and puts in no button. -/
theorem of_buttons (he : w.entries = v.entries) (ha : w.attention = v.attention)
    (hb : ∀ b, w.buttons b ≠ none → v.buttons b ≠ none) (hc : v.Core → w.Core)
    (hB : v.ButtonsOk → w.ButtonsOk) : v.Leads w where
  frame _ := ⟨by simp [ha], fun e h => ⟨e, he ▸ h, rfl, rfl⟩, hb⟩
  sound B h := ⟨hc h.core, h.tap.mono (by simp [ha]) fun p k hk => he ▸ hk,
    fun hBt => hB (h.buttons hBt)⟩

theorem buttons_setButton_none {d : Button} (h : (v.setButton b none).buttons d ≠ none) :
    v.buttons d ≠ none := by
  by_cases hd : d = b
  · subst hd; simp [KeyView.setButton] at h
  · simpa [KeyView.setButton, hd] using h

/-- A CONSUMED button is released. -/
theorem releaseConsumed (h : v.buttons b = some .consumed) : v.Leads (v.setButton b none) :=
  of_buttons rfl rfl (fun _ => buttons_setButton_none)
    (fun hc => hc.setButton (by simp [h]) (by simp))
    fun hB => hB.setButton (by simp [h]) (by simp)

/-- A QUEUED button is released (R14). -/
theorem releaseQueued (h : v.buttons b = some (.channel c .queued)) :
    v.Leads ((v.setQueue c ((v.queue c).map (HoldItem.forgetButton b) ++ [.buttonUp b false])
      (v.reserved c - 1)).setButton b none) :=
  of_buttons rfl rfl (fun _ => buttons_setButton_none) (fun hc => hc.unjoinButton h)
    fun hB => hB.unjoin h

/-- A DELIVERED button is released. -/
theorem releaseDelivered (h : v.buttons b = some (.channel c .delivered)) :
    v.Leads ((v.setHeld c b false).setButton b none) :=
  of_buttons rfl rfl (fun _ => buttons_setButton_none)
    (fun hc => (hc.setHeld c b false).setButton (by simp [KeyView.setHeld, h]) (by simp))
    fun hB => hB.undeliver h

/-- The record of a settled release of a button joins the queue (R15). -/
theorem settledButton (b : Button)
    (room : v.queue c = [] ∨ (v.queue c).length + v.reserved c + 1 ≤ 32) :
    v.Leads (v.setQueue c (v.queue c ++ [.buttonUp b true]) (v.reserved c)) :=
  of_buttons rfl rfl (fun _ => id)
    (fun h => h.setQueue ((h.queues c).settled (.inr ⟨b, rfl⟩) (by
      rcases room with hq | hr
      · have := (h.queues c).reserved
        simp only [hq, List.countP_nil, List.length_nil] at this ⊢
        omega
      · exact hr)))
    fun h => h.snoc fun _ => by simp [HoldItem.changesButton]

end KeyView.Leads

theorem Quiet.settleButton (c : Chan) (b : Button) (s : State) : Quiet s (settleButton c b s) :=
  Quiet.trans (t := s.setHeld c (put (s.held c) b false)) (.of_eq rfl rfl) (.placeSettled c _ _)

/-- A DELIVERED button's release takes it out of its channel's button state (R141). -/
theorem Background.releaseDelivered (carrier : Option Chan) {c : Chan} {b : Button} {s : State}
    (h : nth s.pointer.buttons b = some (.channel c .delivered)) :
    Background s ((if s.deliverable c then
      if carrier = some c then s.setHeld c (put (s.held c) b false)
      else Machine.sendButtons c (s.setHeld c (put (s.held c) b false))
      else Machine.settleButton c b s).setButton b none) := by
  have step := KeyView.Leads.releaseDelivered (v := s.view) h
  have hset : Quiet s (s.setHeld c (put (s.held c) b false)) := .of_eq rfl rfl
  have last : ∀ t, Quiet s t → Quiet s (t.setButton b none) := fun t ht => ht.trans (.of_eq rfl rfl)
  split
  · split
    · exact ⟨last _ hset, rfl, by simpa using step⟩
    · exact ⟨last _ (hset.trans (Background.sendButtons c _).quiet), by simp, by simpa using step⟩
  · refine ⟨last _ (.settleButton c b s), by simp [Machine.settleButton], ?_⟩
    rcases view_placeSettled c (.buttonUp b true) (s.setHeld c (put (s.held c) b false)) with
      hp | ⟨room, hp⟩
    · simpa [Machine.settleButton, hp] using step
    · rw [view_setButton, Machine.settleButton, hp]
      rw [view_setHeld] at room ⊢
      exact step.trans (KeyView.Leads.settledButton b (c := c)
        (v := (s.view.setHeld c b false).setButton b none) room)

theorem Background.releaseButton (carrier : Option Chan) (s : State) (b : Button) :
    Background s (releaseButton carrier s b) := by
  unfold Machine.releaseButton
  split
  · exact .refl s
  · rename_i hb
    exact ⟨.of_eq rfl rfl, rfl, by simpa using KeyView.Leads.releaseConsumed (v := s.view) hb⟩
  · rename_i c hb
    refine ⟨Quiet.trans (t := forgetButton c b s) (.setLink s id)
      ((Quiet.placeRelease c _ _).trans (.of_eq rfl rfl)), rfl, ?_⟩
    simpa using KeyView.Leads.releaseQueued (v := s.view) hb
  · rename_i c hb
    exact .releaseDelivered carrier hb

/-- A released button's entry is gone, and the others stand (R141). -/
theorem buttons_releaseButton (carrier : Option Chan) (s : State) (b : Button) :
    (releaseButton carrier s b).view.buttons b = none := by
  unfold releaseButton
  split
  · assumption
  all_goals simp [KeyView.setButton]

/-! ## Presses (R77, R140) -/

/-- What a press offered to a channel makes of the view (R12, R128). -/
theorem offerButton_cases (report : Bool) (c : Chan) (b : Button) (s : State) :
    (offerButton report c b s).view = s.view.setButton b (some .consumed) ∨
      (s.view.queue c = [] ∧ (offerButton report c b s).view =
        (s.view.setHeld c b true).setButton b (some (.channel c .delivered))) ∨
      (s.roomFor c ∧ (offerButton report c b s).view =
        (s.view.setQueue c (s.view.queue c ++ [.buttonDown b true])
          (s.view.reserved c + 1)).setButton b (some (.channel c .queued))) := by
  have hcases := offerDown_cases c (.buttonDown b true) s
  unfold offerButton
  generalize offerDown c (.buttonDown b true) s = r at hcases
  obtain ⟨d, s1⟩ := r
  dsimp only at hcases
  rcases hcases with ⟨rfl, room, hv⟩ | ⟨rfl, hq, rfl⟩ | ⟨rfl | rfl, hv⟩
  · exact .inr (.inr ⟨room, by simp [hv]⟩)
  · refine .inr (.inl ⟨hq, ?_⟩)
    dsimp only
    split <;> simp
  · exact .inl (by simp [hv])
  · exact .inl (by simp [hv])

theorem Quiet.offerButton (report : Bool) (c : Chan) (b : Button) (s : State) :
    Quiet s (offerButton report c b s) := by
  have h := Quiet.offerDown c (.buttonDown b true) s
  unfold Machine.offerButton
  split <;> rename_i s1 hr <;> rw [hr] at h
  · dsimp only
    split
    · exact h.trans (Quiet.trans (.of_eq rfl rfl) (Background.sendButtons c _).quiet)
    · exact h.trans (.of_eq rfl rfl)
  all_goals exact h.trans (.of_eq rfl rfl)

theorem console_offerButton (report : Bool) (c : Chan) (b : Button) (s : State) :
    (offerButton report c b s).console = s.console := by
  have h : (offerDown c (.buttonDown b true) s).2.console = s.console := by simp
  unfold offerButton
  split <;> rename_i s1 hr <;> rw [hr] at h
  · dsimp only
    split <;> simpa using h
  all_goals exact h

namespace Within

variable {B : Prop} {con : Console} {keys : Port → Code → Prop} {bs : Button → Prop}
  {s t : State} {b : Button}

/-- A release takes its button out (R141). -/
theorem releaseButton (h : Within B con keys bs s) (carrier : Option Chan) (b : Button) :
    Within B con keys (fun d => bs d ∧ d ≠ b) (releaseButton carrier s b) := by
  have hw := h.background (.releaseButton carrier s b)
  exact ⟨hw.sound, hw.console, hw.keys, fun d hd => ⟨hw.buttons d hd, fun e =>
    hd (e ▸ buttons_releaseButton carrier s b)⟩⟩

/-- A button without an entry gets one. -/
theorem press {y : Option ButtonTarget} {v : KeyView} (h : Within B con keys bs s)
    (hc : t.console = s.console) (hv : t.view = v.setButton b y) (hs : (v.setButton b y).Sound B)
    (he : v.entries = s.view.entries) (hb : v.buttons = s.view.buttons) :
    Within B con keys (fun d => bs d ∨ d = b) t where
  sound := hv ▸ hs
  console := hc.trans h.console
  keys e hm := h.keys e (by rw [← he]; rw [hv] at hm; exact hm)
  buttons d hd := by
    by_cases e : d = b
    · exact .inr e
    · refine .inl (h.buttons d ?_)
      rw [hv] at hd
      rw [← hb]
      simpa [KeyView.setButton, e] using hd

theorem offerButton (h : Within B con keys bs s) (report : Bool) (c : Chan) (hb : ¬ bs b) :
    Within B con keys (fun d => bs d ∨ d = b) (offerButton report c b s) := by
  have hnone : s.view.buttons b = none := by
    by_contra hn
    exact hb (h.buttons b hn)
  have hc := console_offerButton report c b s
  have sound := h.sound
  rcases offerButton_cases report c b s with hv | ⟨hq, hv⟩ | ⟨room, hv⟩
  · exact h.press hc hv ⟨sound.core.setButton (by simp [hnone]) (by simp), sound.tap,
      fun hB => (sound.buttons hB).setButton (by simp [hnone]) (by simp)⟩ rfl rfl
  · exact h.press hc hv ⟨(sound.core.setHeld c b true).setButton
      (by simp [KeyView.setHeld, hnone]) (by simp), sound.tap,
      fun hB => (sound.buttons hB).deliver (by simp [hnone]) hq⟩ rfl rfl
  · exact h.press hc hv ⟨sound.core.joinButton (by simp [hnone]) room.places, sound.tap,
      fun hB => (sound.buttons hB).join (by simp [hnone])⟩ rfl rfl

theorem pressAbsolute (h : Within B con keys bs s) (c : Option Chan) (hb : ¬ bs b) :
    Within B con keys (fun d => bs d ∨ d = b) (pressAbsolute c s b) := by
  have hnone : s.view.buttons b = none := by
    by_contra hn
    exact hb (h.buttons b hn)
  unfold Machine.pressAbsolute
  split
  · exact h.press rfl (view_setButton ..) ⟨h.sound.core.setButton (by simp [hnone]) (by simp),
      h.sound.tap, fun hB => (h.sound.buttons hB).setButton (by simp [hnone]) (by simp)⟩ rfl rfl
  · exact (h.background (.pressNotice _ s)).offerButton true _ hb

/-- Releases one by one. -/
theorem releases (h : Within B con keys bs s) (carrier : Option Chan) (ds : List Button) :
    Within B con keys (fun d => bs d ∧ d ∉ ds) (ds.foldl (Machine.releaseButton carrier) s) := by
  induction ds generalizing s bs with
  | nil => exact h.mono (fun _ _ => id) (by simp)
  | cons d ds ih =>
    exact (ih (h.releaseButton carrier d)).mono (fun _ _ => id) (by simp; tauto)

/-- Presses one by one, of buttons without entries. -/
theorem presses {f : State → Button → State}
    (hf : ∀ {s bs b}, Within B con keys bs s → ¬ bs b →
      Within B con keys (fun d => bs d ∨ d = b) (f s b))
    (h : Within B con keys bs s) {ds : List Button} (hds : ds.Nodup) (hb : ∀ d ∈ ds, ¬ bs d) :
    Within B con keys (fun d => bs d ∨ d ∈ ds) (ds.foldl f s) := by
  induction ds generalizing s bs with
  | nil => exact h.mono (fun _ _ => id) (by simp)
  | cons d ds ih =>
    obtain ⟨hnew, hds⟩ := List.nodup_cons.1 hds
    refine (ih (hf h (hb d (by simp))) hds fun e he hbe => ?_).mono (fun _ _ => id) fun e he => ?_
    · rcases hbe with hbe | rfl
      · exact hb e (by simp [he]) hbe
      · exact hnew he
    · simp only [List.mem_cons]
      tauto

/-- A sample of either form (R76, R138). -/
theorem takeSample (h : Within B con keys bs s) {sm : Sample} (hp : sm.presses.Nodup)
    (hnew : ∀ d ∈ sm.presses, ¬ bs d) :
    Within B con keys (fun d => (bs d ∧ d ∉ sm.releases) ∨ d ∈ sm.presses) (takeSample sm s) := by
  have absolute : Within B con keys (fun d => (bs d ∧ d ∉ sm.releases) ∨ d ∈ sm.presses)
      (absoluteSample sm s) := by
    unfold absoluteSample
    dsimp only
    refine presses (fun h => h.pressAbsolute _) ?_ hp fun d hd hb => hnew d hd hb.1
    split
    · exact h.releases none sm.releases
    · exact (h.releases none sm.releases).background (.moveAndDeliver sm _)
  unfold Machine.takeSample
  split
  · exact absolute
  · rename_i f _
    split
    · exact (presses (f := pressCaptive f) (fun h => h.offerButton false f)
        (h.releases (some f) sm.releases) hp fun d hd hb => hnew d hd hb.1).background
        (.captiveReport f sm _ _)
    · exact absolute

end Within

theorem Quiet.pressAbsolute (c : Option Chan) (s : State) (b : Button) :
    Quiet s (pressAbsolute c s b) := by
  unfold Machine.pressAbsolute
  split
  · exact .of_eq rfl rfl
  · exact (Background.pressNotice _ s).quiet.trans (.offerButton true _ b _)

theorem Quiet.takeSample (sm : Sample) (s : State) : Quiet s (takeSample sm s) := by
  have releases : ∀ carrier, Quiet s (sm.releases.foldl (Machine.releaseButton carrier) s) :=
    fun carrier => .foldl (fun s b => (Background.releaseButton carrier s b).quiet) _ s
  have absolute : Quiet s (absoluteSample sm s) := by
    unfold absoluteSample
    dsimp only
    refine Quiet.trans ?_ (.foldl (Quiet.pressAbsolute _) _ _)
    split
    · exact releases none
    · exact (releases none).trans (Background.moveAndDeliver sm _).quiet
  unfold Machine.takeSample
  split
  · exact absolute
  · rename_i f _
    split
    · exact (releases (some f)).trans ((Quiet.foldl (fun s b => .offerButton false f b s) _ _).trans
        (Background.captiveReport f sm _ _).quiet)
    · exact absolute

/-! ## The pointer port (R124 to R126) -/

@[simp] theorem view_setPtr (s : State) (p : PointerPort) : (s.setPtr p).view = s.view := rfl

theorem Quiet.setPtr (p : PointerPort) (s : State) : Quiet s (s.setPtr p) := .of_eq rfl rfl

/-- The pointer port set to a record that is sound itself, where the button table is within it. -/
theorem Within.setPtr {B : Prop} {bs : Button → Prop} {s t : State} {con : Console}
    (ht : Within B con (fun p k => k ∈ (s.keyPort p).last) bs t) (hs : PortsSound s)
    (hcon : ∀ q, t.keyPort q = s.keyPort q) {p : PointerPort}
    (hp : p.state ≠ .active → p.last = noButtons) (hb : ∀ b, bs b → nth p.last b = true) :
    Disciplined B (t.setPtr p) := by
  have hport : ∀ q, (t.setPtr p).keyPort q = s.keyPort q := fun q => by
    rw [← hcon q]
    cases q <;> rfl
  refine ht.disciplined rfl (fun q => ?_) (fun q j hj => ?_) hp hb
  · rw [hport]; exact hs.ports q
  · rw [hport]; exact hj

theorem Disciplined.setPtr {B : Prop} {s : State} (h : Disciplined B s) {p : PointerPort}
    (hlast : s.console.ptr.last = noButtons) (hp : p.state ≠ .active → p.last = noButtons) :
    Disciplined B (s.setPtr p) :=
  h.within.setPtr h.ports (fun _ => rfl) hp fun b hb => by simp [hlast, noButtons] at hb

/-- A sample of an ACTIVE port, the port's record set before it. -/
theorem Disciplined.withinSample {B : Prop} {s : State} (h : Disciplined B s) (p : PointerPort)
    {sm : Sample} (hsm : sm.presses.Nodup)
    (hnew : ∀ d ∈ sm.presses, nth s.console.ptr.last d = false) :
    Within B (s.setPtr p).console (fun q k => k ∈ (s.keyPort q).last)
      (fun d => (nth s.console.ptr.last d = true ∧ d ∉ sm.releases) ∨ d ∈ sm.presses)
      (takeSample sm (s.setPtr p)) := by
  have start : Within B (s.setPtr p).console (fun q k => k ∈ (s.keyPort q).last)
      (fun b => nth s.console.ptr.last b = true) (s.setPtr p) :=
    ⟨h.sound, rfl, h.ports.keys, h.ports.buttons⟩
  exact start.takeSample hsm fun d hd => by simp [hnew d hd]

theorem State.keyPort_of_setPtr {s t : State} {p : PointerPort}
    (h : t.console = (s.setPtr p).console) (q : Port) : t.keyPort q = s.keyPort q := by
  rw [State.keyPort_congr h]
  cases q <;> rfl

theorem mem_allButtons (b : Button) : b ∈ allButtons := by
  revert b
  decide

/-- A report's sample (R125). -/
theorem Disciplined.pointerReport {B : Prop} {s : State} (h : Disciplined B s)
    (hp : s.console.ptr.state = .active) (bytes : List Byte) :
    Disciplined B (takeSample (sampleOf s.console.ptr.last bytes)
      (s.setPtr { s.console.ptr with last := reportButtons bytes })) := by
  have nodup : (sampleOf s.console.ptr.last bytes).presses.Nodup :=
    List.Nodup.filter _ (by decide : allButtons.Nodup)
  have ht := h.withinSample { s.console.ptr with last := reportButtons bytes } nodup
    fun d hd => by simpa using (Bool.and_eq_true_iff.1 (List.mem_filter.1 hd).2).2
  have hkey := State.keyPort_of_setPtr ht.console
  refine ht.disciplined rfl (fun q => ?_) (fun q j hj => ?_) (fun hn => ?_) fun d hd => ?_
  · rw [hkey]; exact h.ports.ports q
  · rw [hkey]; exact hj
  · rw [ht.console] at hn
    exact absurd hp hn
  · rw [ht.console]
    change nth (reportButtons bytes) d = true
    simp only [sampleOf, List.mem_filter, mem_allButtons, true_and, Bool.and_eq_true,
      Bool.not_eq_true'] at hd
    grind

/-- The detach sample (R126). -/
theorem Disciplined.detachPointer {B : Prop} {s : State} (h : Disciplined B s) :
    Disciplined B (detachPointer s) := by
  have ht := h.withinSample { s.console.ptr with state := .absent }
    (sm := detachSample s.console.ptr.last) List.nodup_nil (by simp [detachSample])
  refine ht.setPtr h.ports (State.keyPort_of_setPtr ht.console) (fun _ => rfl) fun d hd => ?_
  simp [detachSample, mem_allButtons] at hd

end Sys2Proof.Machine
end

section
/-! Every command keeps the discipline of held keys and buttons and reports on ACTIVE links alone: O17, O18 and O3. -/

namespace Sys2Proof.Machine

/-- What a command keeps: it reports on ACTIVE links alone, but for its own configuration and resume, and it keeps the
discipline. -/
structure Keeps (i : Instr) (s t : State) : Prop where
  quiet : ∀ c, i ≠ .configure c → i ≠ .resume c → QuietFor c s t
  disciplined : ∀ B, Disciplined B s → Disciplined B t

/-- A command that completes in a state it keeps the discipline to. -/
def Kept (i : Instr) (s : State) (r : Host.Outcome State Fault Refusal) : Prop :=
  ∃ t, r = .next t ∧ Keeps i s t

section

variable {i : Instr} {s t : State}

theorem Kept.of_quiet (hq : Quiet s t) (hd : ∀ B, Disciplined B s → Disciplined B t) :
    Kept i s (.next t) := ⟨t, rfl, fun c _ _ => hq c, hd⟩

theorem Kept.background (h : Background s t) : Kept i s (.next t) :=
  .of_quiet h.quiet fun _ hd => hd.background h

theorem Kept.same : Kept i s (.next s) := .background (.refl s)

end

theorem Disciplined.raising {B : Prop} {c : Chan} {s t : State} (h : Disciplined B s)
    (hr : Raising c s t) : Disciplined B t := h.of_leads hr.console hr.leads

theorem kept_configure (c : Chan) (s : State) : Kept (.configure c) s (execConfigure c s) := by
  have raised : ∀ t, Raising c s t → Kept (.configure c) s (.next t) := fun t ht =>
    ⟨t, rfl, fun d hd _ => ht.quiet d fun e => hd (e ▸ rfl), fun _ h => h.raising ht⟩
  unfold execConfigure
  split
  · exact raised _ (.bringUp c s)
  · exact raised _ (((Background.loseLink c s).raising c).trans (.bringUp c _))

theorem kept_resume (c : Chan) (s : State) : Kept (.resume c) s (execResume c s) := by
  have raised : Kept (.resume c) s (.next (resumeLink c s)) :=
    ⟨_, rfl, fun d _ hd => (Raising.resumeLink c s).quiet d fun e => hd (e ▸ rfl),
      fun _ h => h.raising (.resumeLink c s)⟩
  unfold execResume
  split
  · exact raised
  · exact raised
  · exact .same
  · exact .same

theorem kept_powerOnReset (detect : Vector Bool 6) (s : State) :
    Kept (.powerOnReset detect) s (execPowerOnReset detect s) := by
  refine .of_quiet (.powerOn detect s) fun B _ => ?_
  have base : Disciplined B (powerOnBase detect (loadTables s.storeAtPowerOn) s) := by
    refine ⟨view_powerOnBase detect _ s ▸ KeyView.empty_sound B, fun p _ => ?_, fun e he => ?_,
      fun _ => rfl, fun b hb => ?_⟩
    · cases p <;> rfl
    · simp [powerOnBase, Router.reset] at he
    · simp [powerOnBase, Pointer.reset] at hb
  exact base.background (.powerOn detect s)

theorem kept_keyboardPortAttach (p : Port) (boot : Bool) (s : State) :
    Kept (.keyboardPortAttach p boot) s (execKeyboardPortAttach p boot s) := by
  unfold execKeyboardPortAttach
  split
  · exact .of_quiet (.attachKeyboard p boot s) fun _ h => h.attachKeyboard (by assumption) boot
  · exact .same

theorem kept_keyboardPortDetach (p : Port) (s : State) :
    Kept (.keyboardPortDetach p) s (execKeyboardPortDetach p s) := by
  unfold execKeyboardPortDetach
  split
  · exact .same
  · rename_i hp
    refine .of_quiet (.setKeyPort p _ s) fun _ h => ?_
    have hlast : (s.keyPort p).last = [] := h.ports.ports p (by simp [hp])
    exact h.setKeyPort hlast fun _ => hlast
  · exact .of_quiet (.detachKeyboard p s) fun _ h => h.detachKeyboard p

theorem kept_keyboardReport (p : Port) (r : KeyboardBytes) (s : State) :
    Kept (.keyboardReport p r) s (execKeyboardReport p r s) := by
  unfold execKeyboardReport
  split
  · split
    · exact .background (.latch .rollover s)
    · rename_i hp hr
      exact .of_quiet (.acceptReport p _ s) fun _ h =>
        h.acceptReport hp (nodup_reportCodes (by simpa using hr))
  · exact .same

theorem kept_pointerPortAttach (relative : Bool) (s : State) :
    Kept (.pointerPortAttach relative) s (execPointerPortAttach relative s) := by
  unfold execPointerPortAttach
  split
  · rename_i hp
    have hlast : ∀ {B}, Disciplined B s → s.console.ptr.last = noButtons := fun h =>
      h.ports.pointer (by simp [hp])
    split
    · exact .of_quiet (.setPtr _ s) fun _ h => h.setPtr (hlast h) (by simp)
    · exact .of_quiet (.setPtr _ s) fun _ h => h.setPtr (hlast h) fun _ => hlast h
  · exact .same

theorem kept_pointerPortDetach (s : State) :
    Kept .pointerPortDetach s (execPointerPortDetach s) := by
  unfold execPointerPortDetach
  split
  · exact .same
  · rename_i hp
    refine .of_quiet (.setPtr _ s) fun _ h => ?_
    have hlast : s.console.ptr.last = noButtons := h.ports.pointer (by simp [hp])
    exact h.setPtr hlast fun _ => hlast
  · exact .of_quiet ((Quiet.setPtr _ s).trans ((Quiet.takeSample _ _).trans (.setPtr _ _)))
      fun _ h => h.detachPointer

theorem kept_pointerReport (bytes : List Byte) (s : State) :
    Kept (.pointerReport bytes) s (execPointerReport bytes s) := by
  unfold execPointerReport
  split
  · rename_i hp
    exact .of_quiet ((Quiet.setPtr _ s).trans (.takeSample _ _)) fun _ h => h.pointerReport hp bytes
  · exact .same

theorem exec_kept (i : Instr) (s : State) : Kept i s (exec i s) := by
  cases i with
  | powerOnReset detect => exact kept_powerOnReset detect s
  | configure c => exact kept_configure c s
  | setRemoteWake c on =>
    change Kept _ s (execSetRemoteWake c on s)
    unfold execSetRemoteWake
    split
    · exact .background (.setLink (l := { s.link c with remoteWake := on }) s id rfl rfl)
    · exact .same
  | suspend c =>
    change Kept _ s (execSuspend c s)
    unfold execSuspend
    split
    · exact .background (.suspendLink c s)
    · exact .same
  | resume c => exact kept_resume c s
  | wakeWindowExpiry c =>
    change Kept _ s (execWakeWindowExpiry c s)
    unfold execWakeWindowExpiry
    repeat' split
    · exact .background (.signalWake c _ s)
    · exact .background (.failWake c s)
    · exact .same
  | linkLoss c =>
    change Kept _ s (execLinkLoss c s)
    unfold execLinkLoss
    split
    · exact .same
    · exact .background (.loseLink c s)
  | ledOutputReport c lamps =>
    change Kept _ s (execLedOutputReport c lamps s)
    unfold execLedOutputReport
    dsimp only
    split
    · exact .background (.setLeds c _ s)
    · exact .same
  | getReport c asked => exact .background (.offer c asked _ s)
  | keyboardPortAttach p boot => exact kept_keyboardPortAttach p boot s
  | keyboardPortDetach p => exact kept_keyboardPortDetach p s
  | keyboardReport p r => exact kept_keyboardReport p r s
  | tapWindowExpiry =>
    change Kept _ s (execTapWindowExpiry s)
    unfold execTapWindowExpiry
    split
    · exact .background ((Background.lateTap _ _ s).trans (.setAttention (by simp) _))
    · exact .same
  | armWindowExpiry =>
    change Kept _ s (execArmWindowExpiry s)
    unfold execArmWindowExpiry
    split
    · exact .background (.setAttention (by simp) s)
    · exact .same
  | cueElementEnd => exact .background (.setFocus _ s)
  | sleepPulse => exact .background (.setFocus _ s)
  | macroStepExpiry =>
    change Kept _ s (execMacroStepExpiry s)
    unfold execMacroStepExpiry
    split
    · exact .same
    · rename_i hp
      split
      · exact .background (.stepExpiry hp)
      · exact .same
  | pointerPortAttach relative => exact kept_pointerPortAttach relative s
  | pointerPortDetach => exact kept_pointerPortDetach s
  | pointerReport bytes => exact kept_pointerReport bytes s
  | dwellExpiry => exact .background (.completeDwell s)
  | headSignalChange h detected =>
    change Kept _ s (execHeadSignalChange h detected s)
    unfold execHeadSignalChange
    split
    · exact .same
    · exact .background (.changeSignal h _ s)
  | hotPlugChange m asserted =>
    change Kept _ s (execHotPlugChange m asserted s)
    unfold execHotPlugChange
    split
    · exact .same
    · exact .background (.changeSink m asserted s)
  | frameStart m =>
    change Kept _ s (execFrameStart m s)
    unfold execFrameStart
    split
    · exact .background (.beginFrame m s)
    · exact .same
  | confirmWindowExpiry =>
    change Kept _ s (execConfirmWindowExpiry s)
    unfold execConfirmWindowExpiry
    split
    · exact .same
    · exact .background (.expirePending _ s)
  | storeTableWritten =>
    change Kept _ s (execStoreTableWritten s)
    unfold execStoreTableWritten
    split
    · exact .same
    · exact .background (.tableWritten _ s)
  | storeWriteFailed =>
    change Kept _ s (execStoreWriteFailed s)
    unfold execStoreWriteFailed
    split
    · exact .same
    · exact .background (.writeFailed _ s)
  | unknownCommand c report => exact .background (.takeReport c report s)
  | identify c f => exact .background (.takeCommand .identify c f s)
  | readTable c f => exact .background (.takeCommand .readTable c f s)
  | writeTable c f => exact .background (.takeCommand .writeTable c f s)
  | lockTable c f => exact .background (.takeCommand .lockTable c f s)
  | signTable c f => exact .background (.takeCommand .signTable c f s)
  | saveStore c f => exact .background (.takeCommand .saveStore c f s)
  | setPolicy c f => exact .background (.takeCommand .setPolicy c f s)
  | select c f => exact .background (.takeCommand .select c f s)
  | recallPreset c f => exact .background (.takeCommand .recallPreset c f s)
  | setLayout c f => exact .background (.takeCommand .setLayout c f s)
  | wake c f => exact .background (.takeCommand .wake c f s)
  | playMacro c f => exact .background (.takeCommand .playMacro c f s)
  | readState c f => exact .background (.takeCommand .readState c f s)
  | readEvents c f => exact .background (.takeCommand .readEvents c f s)
  | clearEvents c f => exact .background (.takeCommand .clearEvents c f s)
  | deskRestart c f => exact .background (.takeCommand .deskRestart c f s)

theorem exec_keeps {i : Instr} {s t : State} (h : exec i s = .next t) : Keeps i s t := by
  obtain ⟨u, hu, keeps⟩ := exec_kept i s
  rw [h] at hu
  cases hu
  exact keeps

/-- A step keeps the discipline: the queue of commands is no part of it. -/
theorem Disciplined.step {B : Prop} {s t : State} (h : Disciplined B s) (hs : step s = .next t) :
    Disciplined B t := by
  unfold Machine.step at hs
  split at hs
  · cases hs
    exact h
  · exact (exec_keeps hs).disciplined B ⟨h.sound, h.ports.ports, h.ports.keys, h.ports.pointer,
      h.ports.buttons⟩

theorem keysSound_iff_disciplined (s : State) : KeysSound s ↔ Disciplined False s :=
  (keysSound_iff s).trans ⟨fun ⟨core, tap, ports⟩ => ⟨⟨core, tap, False.elim⟩, ports⟩,
    fun ⟨⟨core, tap, _⟩, ports⟩ => ⟨core, tap, ports⟩⟩

theorem Disciplined.keysSound {B : Prop} {s : State} (h : Disciplined B s) : KeysSound s :=
  (keysSound_iff s).2 ⟨h.sound.core, h.sound.tap, h.ports⟩

/-- A code contributes while an entry or the player keeps it down. -/
theorem one_le_contributors (s : State) (c : Chan) (k : Code) : 1 ≤ contributors s c k ↔
    (∃ p j, ⟨p, j, .channel c (some k) .delivered⟩ ∈ s.router.entries) ∨
      ∃ pl, s.player = some pl ∧ pl.chan = c ∧ k ∈ pl.pressed := by
  have entries : 1 ≤ heldBy s.view.entries c k ↔
      ∃ p j, ⟨p, j, .channel c (some k) .delivered⟩ ∈ s.router.entries := by
    unfold heldBy
    rw [Nat.one_le_iff_ne_zero, ← Nat.pos_iff_ne_zero, List.countP_pos_iff]
    constructor
    · rintro ⟨⟨p, j, x⟩, he, hx⟩
      exact ⟨p, j, (beq_iff_eq.1 hx : x = _) ▸ he⟩
    · rintro ⟨p, j, he⟩
      exact ⟨_, he, beq_iff_eq.2 rfl⟩
  have player : 1 ≤ playerHolds s.view.player c k ↔
      ∃ pl, s.player = some pl ∧ pl.chan = c ∧ k ∈ pl.pressed := by
    cases hp : s.player with
    | none => simp [State.view, hp, playerHolds]
    | some pl =>
      by_cases h : pl.chan = c ∧ k ∈ pl.pressed <;>
        simp [State.view, hp, playerHolds, Player.served, h]
  rw [contributors_eq, ← entries, ← player]
  omega

/-- A code is in the pressed set exactly while something keeps it down (R38). -/
theorem mem_pressedSet_iff {s : State} (h : KeysSound s) (c : Chan) (k : Code) :
    k ∈ s.pressedSet c ↔
      (∃ p j, ⟨p, j, .channel c (some k) .delivered⟩ ∈ s.router.entries) ∨
        ∃ pl, s.player = some pl ∧ pl.chan = c ∧ k ∈ pl.pressed := by
  obtain ⟨core, -, -⟩ := (keysSound_iff s).1 h
  rw [← one_le_contributors, contributors_eq, ← core.counts]
  exact mem_map_fst_iff_countOf (core.canonical c) k

/-! ## The obligations -/

/-- Settles O17: a command keeps the discipline, and the rest of the statement is part of it. -/
theorem keysSoundKept : Obligations.KeysSoundKept := by
  intro s t hs hstep
  have ht := ((keysSound_iff_disciplined s).1 hs).step hstep
  exact ⟨ht.keysSound, fun c => (ht.sound.core.queues c).fits, mem_pressedSet_iff ht.keysSound⟩

/-- Settles O18: with the discipline of keys, a command keeps that of button states. -/
theorem buttonsSoundKept : Obligations.ButtonsSoundKept := by
  intro s t hs hb hstep
  have h : Disciplined True s :=
    { (keysSound_iff_disciplined s).1 hs with
      sound :=
        { ((keysSound_iff_disciplined s).1 hs).sound with
          buttons := fun _ => (buttonsSound_iff s).1 hb } }
  exact (buttonsSound_iff t).2 ((h.step hstep).sound.buttons trivial)

/-- Settles O3: every command reports through offers, which reach ACTIVE links alone. -/
theorem reportsOnlyOnActiveLinks : Obligations.ReportsOnlyOnActiveLinks := by
  intro i s t c hexec hc hconf hres
  exact ((exec_keeps hexec).quiet c hconf hres).reports hc

end Sys2Proof.Machine
end

section
/-! What each item of a drain does (R17): O9. -/

namespace Sys2Proof.Machine

/-! ## What an ACTIVE link is sent (R6, R41) -/

@[simp] theorem inputReports_nil (c : Chan) : inputReports c [] = [] := rfl

theorem inputReports_keyboard (c : Chan) (b : List Byte) :
    inputReports c [.report c .keyboard b] = [(.keyboard, b)] := by
  simp [inputReports, reportsTo]

theorem inputReports_relative (c : Chan) (b : List Byte) :
    inputReports c [.report c .relativePointer b] = [(.relativePointer, b)] := by
  simp [inputReports, reportsTo]

/-- A keyboard report that leaves when the pressed set changed (R41). -/
theorem inputReports_keyboard_ite (c : Chan) (b : List Byte) (P : Prop) [Decidable P] :
    inputReports c (if P then [.report c .keyboard b] else []) =
      if P then [(.keyboard, b)] else [] := by
  split
  · exact inputReports_keyboard c b
  · rfl

theorem newSent_eq {s t : State} {l : List Sent} (h : t.sent = s.sent ++ l) : newSent s t = l :=
  QuietFor.newSent_eq h

/-- A press on an ACTIVE link (R41). -/
theorem pressCode_active {c : Chan} {s : State} (h : (s.link c).state = .active) (t : Code) :
    pressCode c t s = { s.setCounts c (countUp t (s.counts c)) with
      sent := s.sent ++ if countOf t (s.counts c) = 0 then
        [.report c .keyboard (keyboardReportBytes ((countUp t (s.counts c)).map (·.1)))]
        else [] } := by
  have ha : ((s.setCounts c (countUp t (s.counts c))).link c).state = .active := h
  unfold pressCode
  dsimp only
  split
  · rw [sendKeyboard, offer_active ha, State.pressedSet, State.counts_setCounts_same]
    rfl
  · rw [List.append_nil]
    rfl

/-- A release on an ACTIVE link (R41). -/
theorem releaseCode_active {c : Chan} {s : State} (h : (s.link c).state = .active) (t : Code) :
    releaseCode c t s = { s.setCounts c (countDown t (s.counts c)) with
      sent := s.sent ++ if countOf t (s.counts c) = 1 then
        [.report c .keyboard (keyboardReportBytes ((countDown t (s.counts c)).map (·.1)))]
        else [] } := by
  have ha : ((lowerCode c t s).link c).state = .active := h
  unfold releaseCode
  split
  · rw [sendKeyboard, offer_active ha, State.pressedSet, lowerCode, State.counts_setCounts_same]
    rfl
  · rw [List.append_nil]
    rfl

/-- A button state set on an ACTIVE link, with its report (R6, R129). -/
theorem sendButtons_active {c : Chan} {s : State} (h : (s.link c).state = .active) :
    sendButtons c s = { s with
      sent := s.sent ++ [.report c .relativePointer (relativeBytes (s.held c) 0 0 0 0)] } :=
  offer_active h _ _

/-- An entry once a drained press that names the pair (p, k) marks it (R17, R37). -/
def markEntry (c : Chan) (p : Port) (k : Code) (e : KeyEntry) : KeyEntry :=
  match e with
  | ⟨q, j, .channel d tr .queued⟩ =>
    if q = p ∧ j = k ∧ d = c then ⟨q, j, .channel d tr .delivered⟩ else e
  | e => e

theorem markEntry_elsewhere {c : Chan} {p : Port} {k : Code} {e : KeyEntry} (h : ¬ e.at p k) :
    markEntry c p k e = e := by
  obtain ⟨q, j, _ | _ | ⟨d, tr, _ | _⟩⟩ := e <;> try rfl
  exact if_neg fun ⟨hq, hj, _⟩ => h ⟨hq, hj⟩

theorem markEntry_of_not_queued {c : Chan} {p q : Port} {k j : Code} {x : KeyTarget}
    (h : ∀ t, x ≠ .channel c t .queued) : markEntry c p k ⟨q, j, x⟩ = ⟨q, j, x⟩ := by
  obtain _ | _ | ⟨d, tr, _ | _⟩ := x <;> try rfl
  exact if_neg fun ⟨_, _, hd⟩ => h tr (hd ▸ rfl)

theorem markEntries_of_not_queued {c : Chan} {p : Port} {k : Code} {es : List KeyEntry}
    (h : ∀ t, targetAt p k es ≠ some (.channel c t .queued)) : markEntries c p k es = es := by
  unfold markEntries
  unfold targetAt at h
  split
  · rename_i q j d t hf
    rw [hf] at h
    refine if_neg ?_
    rintro rfl
    exact h t rfl
  · rfl

/-- In a table in order the marked entry is the one QUEUED at the pair (R17, R37). -/
theorem markEntries_eq_map {es : List KeyEntry} (h : Sorted es) (c : Chan) (p : Port) (k : Code) :
    markEntries c p k es = es.map (markEntry c p k) := by
  by_cases hq : ∃ t, targetAt p k es = some (.channel c t .queued)
  · obtain ⟨t, ht⟩ := hq
    obtain ⟨e, hf, he⟩ := Option.map_eq_some_iff.1 ht
    obtain ⟨hmem, heq⟩ := findEntry_eq_some hf
    rw [he] at heq
    subst heq
    have hmark : markEntries c p k es = setTarget p k (.channel c t .delivered) es := by
      simp [markEntries, hf]
    rw [hmark]
    refine List.map_congr_left fun a ha => ?_
    by_cases hat : a.at p k
    · obtain rfl := h.unique ha hmem hat
      simp [markEntry]
    · rw [markEntry_elsewhere hat]
      exact if_neg (by simpa [KeyEntry.at] using hat)
  · rw [markEntries_of_not_queued fun t ht => hq ⟨t, ht⟩]
    refine ((List.map_congr_left (g := id) fun a ha => ?_).trans (List.map_id es)).symm
    by_cases hat : a.at p k
    · obtain ⟨p', k', x⟩ := a
      obtain ⟨rfl, rfl⟩ : p' = p ∧ k' = k := hat
      refine markEntry_of_not_queued fun t hx => hq ⟨t, ?_⟩
      simp [targetAt, h.findEntry_of_mem ha, hx]
    · exact markEntry_elsewhere hat

/-! ## The items (R17) -/

theorem drainItem_press {c : Chan} {s : State} (h : (s.link c).state = .active)
    (hs : KeyTableSorted s) {p : Port} {k t : Code} {named : Bool} {u : State}
    (hu : u = drainItem c s (.keyDown p k t named) ∨ u = drainItem c s (.modHandover p k t named)) :
    u = { s with
      router := ⟨if named then s.router.entries.map (markEntry c p k) else s.router.entries,
        put s.router.counts c (countUp t (s.counts c))⟩
      sent := s.sent ++ if countOf t (s.counts c) = 0 then
        [.report c .keyboard (keyboardReportBytes ((countUp t (s.counts c)).map (·.1)))]
        else [] } := by
  have hu : u = if named then markKey c p k (pressCode c t s) else pressCode c t s := hu.elim id id
  rw [hu, pressCode_active h]
  cases named
  · rfl
  · rw [if_pos rfl, markKey_eq, ← markEntries_eq_map hs]
    rfl

theorem drainItem_keyUp {c : Chan} {s : State} (h : (s.link c).state = .active) (p : Port)
    (k t : Code) : drainItem c s (.keyUp p k t false) = { s with
      router := ⟨s.router.entries, put s.router.counts c (countDown t (s.counts c))⟩
      sent := s.sent ++ if countOf t (s.counts c) = 1 then
        [.report c .keyboard (keyboardReportBytes ((countDown t (s.counts c)).map (·.1)))]
        else [] } := releaseCode_active h t

/-- A button state set on an ACTIVE link and reported (R17). -/
theorem sendButtons_setHeld {c : Chan} {s : State} (h : (s.link c).state = .active)
    (v : Vector Bool 5) : sendButtons c (s.setHeld c v) = { s with
      pointer := { s.pointer with held := put s.pointer.held c v }
      sent := s.sent ++ [.report c .relativePointer (relativeBytes v 0 0 0 0)] } := by
  have hv : (s.setHeld c v).held c = v := by simp [State.held_setHeld]
  rw [sendButtons_active (s := s.setHeld c v) h, hv]
  rfl

/-- Settles O9, item by item: each item is one write of a count or a button state, with its report. -/
theorem drainItemEffects : Obligations.DrainItemEffects := by
  intro c s h hs
  refine ⟨fun p k t named u hu => ?_, fun p k t u hu => ?_, fun _ _ _ => rfl,
    fun b named u hu => ?_, fun b u hu => ?_, fun _ => rfl⟩
  · have hu := drainItem_press h hs hu
    have counts : u.counts c = countUp t (s.counts c) := by
      rw [hu]
      exact nth_put_self ..
    refine ⟨by rw [hu], counts, fun d hd => ?_, ?_, ?_⟩
    · rw [hu]
      exact nth_put_ne _ (Ne.symm hd) _
    · rw [hu]
      cases named
      · refine ((List.map_congr_left (g := id) ?_).trans (List.map_id _)).symm
        rintro ⟨q, j, _ | _ | ⟨d, tr, _ | _⟩⟩ - <;> rfl
      · refine List.map_congr_left ?_
        rintro ⟨q, j, _ | _ | ⟨d, tr, _ | _⟩⟩ - <;> simp [markEntry]
    · rw [State.pressedSet, counts, newSent_eq (congrArg State.sent hu)]
      exact inputReports_keyboard_ite ..
  · rw [drainItem_keyUp h] at hu
    have counts : u.counts c = countDown t (s.counts c) := by
      rw [hu]
      exact nth_put_self ..
    refine ⟨by rw [hu], counts, fun d hd => ?_, by rw [hu], ?_⟩
    · rw [hu]
      exact nth_put_ne _ (Ne.symm hd) _
    · rw [State.pressedSet, counts, newSent_eq (congrArg State.sent hu)]
      exact inputReports_keyboard_ite ..
  · have hu : u = { s with
        pointer := { s.pointer with
          held := put s.pointer.held c (put (s.held c) b true)
          buttons := if named then
              put s.pointer.buttons b (markTarget c (nth s.pointer.buttons b))
            else s.pointer.buttons }
        sent := s.sent ++
          [.report c .relativePointer (relativeBytes (put (s.held c) b true) 0 0 0 0)] } := by
      rw [hu]
      change (if named then markButton c b _ else _) = _
      rw [sendButtons_setHeld h]
      cases named
      · rfl
      · rw [if_pos rfl, markButton_eq]
        rfl
    have held : u.held c = put (s.held c) b true := by
      rw [hu]
      exact nth_put_self ..
    refine ⟨by rw [hu], held, fun d hd => ?_, fun a => ?_, ?_⟩
    · rw [hu]
      exact nth_put_ne _ (Ne.symm hd) _
    · rw [hu]
      cases named
      · simp
      · by_cases ha : a = b
        · subst ha
          simp [markTarget]
        · simp [ha, nth_put_ne _ (Ne.symm ha)]
    · rw [held, newSent_eq (congrArg State.sent hu)]
      exact inputReports_relative c _
  · have hu := hu.trans (sendButtons_setHeld h _)
    have held : u.held c = put (s.held c) b false := by
      rw [hu]
      exact nth_put_self ..
    refine ⟨by rw [hu], held, fun d hd => ?_, by rw [hu], ?_⟩
    · rw [hu]
      exact nth_put_ne _ (Ne.symm hd) _
    · rw [held, newSent_eq (congrArg State.sent hu)]
      exact inputReports_relative c _

end Sys2Proof.Machine
end

section
/-! LED records, requests for reports, and configurations (R4, R19, R20, R27): O12 and O5. -/

namespace Sys2Proof.Machine

/-! ## What a latching and the console LEDs add (R27, R181, R184) -/

/-- Alert reports alone: nothing for the input interfaces, nothing for the console keyboards. -/
def OnlyAlerts (l : List Sent) : Prop := ∀ o ∈ l, ∃ c b, o = .report c .management b

theorem OnlyAlerts.nil : OnlyAlerts [] := by simp [OnlyAlerts]

theorem OnlyAlerts.append {l m : List Sent} (hl : OnlyAlerts l) (hm : OnlyAlerts m) :
    OnlyAlerts (l ++ m) := fun o ho => (List.mem_append.1 ho).elim (hl o) (hm o)

@[simp] theorem inputReports_append (c : Chan) (l m : List Sent) :
    inputReports c (l ++ m) = inputReports c l ++ inputReports c m := by
  simp [inputReports]

theorem OnlyAlerts.inputReports {l : List Sent} (h : OnlyAlerts l) (c : Chan) :
    inputReports c l = [] := by
  induction l with
  | nil => rfl
  | cons o l ih =>
    obtain ⟨d, b, rfl⟩ := h o (by simp)
    have hone : Machine.inputReports c [.report d .management b] = [] := by
      by_cases hd : d = c <;> simp [Machine.inputReports, reportsTo, hd]
    rw [← List.singleton_append, inputReports_append, hone, ih fun o ho => h o (by simp [ho])]
    rfl

theorem inputReports_ledReports (c : Chan) (s : State) : inputReports c (ledReports s) = [] := by
  unfold ledReports
  split <;> split <;> rfl

/-- A state with more in its log. -/
def State.say (s : State) (l : List Sent) : State := { s with sent := s.sent ++ l }

theorem State.say_nil (s : State) : s.say [] = s := by simp only [State.say, List.append_nil]

theorem State.say_say (s : State) (l m : List Sent) : (s.say l).say m = s.say (l ++ m) := by
  simp only [State.say, List.append_assoc]

/-- A state with the alert flag and alert reports of its own (R184). -/
def State.alerted (s : State) (flag : Bool) (l : List Sent) : State :=
  { s with mgmt := { s.mgmt with alertOutstanding := flag }, sent := s.sent ++ l }

theorem sendAlert_form (c : Chan) (e : Event) (s : State) :
    ∃ l, OnlyAlerts l ∧ sendAlert c e s = s.alerted true l := by
  unfold sendAlert offer
  split
  · exact ⟨[.report c .management (alertBytes e s)], by simp [OnlyAlerts], rfl⟩
  · refine ⟨[], .nil, ?_⟩
    simp only [State.alerted, List.append_nil]
    rfl

theorem State.alerted_self (s : State) : s.alerted s.mgmt.alertOutstanding [] = s := by
  simp only [State.alerted, List.append_nil]

theorem State.alerted_alerted (s : State) (f g : Bool) (l m : List Sent) :
    (s.alerted f l).alerted g m = s.alerted g (l ++ m) := by
  simp only [State.alerted, List.append_assoc]

/-- What a latching writes (R181, R184). -/
theorem latch_form (e : Event) (s : State) : ∃ flag l, OnlyAlerts l ∧ latch e s =
    (s.setMgmt { s.mgmt with latch := addEvent s.mgmt.latch e }).alerted flag l := by
  have quiet := (State.alerted_self (s.setMgmt { s.mgmt with latch := addEvent s.mgmt.latch e })).symm
  unfold latch
  dsimp only
  split
  · split
    · exact ⟨_, [], .nil, quiet⟩
    · obtain ⟨l, hl, h⟩ := sendAlert_form ‹Chan› e
        (s.setMgmt { s.mgmt with latch := addEvent s.mgmt.latch e })
      exact ⟨true, l, hl, h⟩
  · exact ⟨_, [], .nil, quiet⟩

theorem alertOnActive_form (c : Chan) (s : State) :
    ∃ flag l, OnlyAlerts l ∧ alertOnActive c s = s.alerted flag l := by
  unfold alertOnActive
  split
  · unfold alertWhenActive
    split
    · obtain ⟨l, hl, h⟩ := sendAlert_form _ _ s
      exact ⟨true, l, hl, h⟩
    · exact ⟨_, [], .nil, s.alerted_self.symm⟩
  · exact ⟨_, [], .nil, s.alerted_self.symm⟩

/-- The console LEDs driven (R27). -/
theorem driveConsoleLeds_eq (s : State) :
    driveConsoleLeds s = s.say (ledReports s) := by
  have port : ∀ (p : Port) (u : State), drivePort p u = u.say
      (if (u.keyPort p).state = .active then [.consoleLeds p u.consoleLamps] else []) :=
    fun p u => by
      unfold drivePort
      split
      · rfl
      · exact u.say_nil.symm
  rw [driveConsoleLeds, port, port, State.say_say]
  rfl

theorem ledsIfFocus_eq (c : Chan) (s : State) : ledsIfFocus c s =
    s.say (if s.focus.channel = some c then ledReports s else []) := by
  unfold ledsIfFocus
  split
  · exact driveConsoleLeds_eq s
  · exact s.say_nil.symm

/-! ## LED output reports (R19) -/

/-- A link written with what it holds already. -/
theorem State.setLink_self (s : State) (c : Chan) : s.setLink c (s.link c) = s := by
  simp only [State.setLink, State.link, put_nth_self]

/-- An LED output report on an ACTIVE link (R19, R27). -/
theorem execLedOutputReport_active {c : Chan} {s : State} (h : (s.link c).state = .active)
    (lamps : Byte) : execLedOutputReport c lamps s =
      .next ((s.setLink c { s.link c with leds := lamps.setWidth 5 }).say
        (if s.focus.channel = some c ∧ (s.link c).leds ≠ lamps.setWidth 5 then
          ledReports (s.setLink c { s.link c with leds := lamps.setWidth 5 }) else [])) := by
  unfold execLedOutputReport
  dsimp only
  by_cases hl : (s.link c).leds = lamps.setWidth 5
  · have same : { s.link c with leds := lamps.setWidth 5 } = s.link c := by rw [← hl]
    rw [if_neg fun h => h.2 hl, if_neg fun h => h.2 hl, same, State.setLink_self, State.say_nil]
  · rw [if_pos ⟨h, hl⟩, ledsIfFocus_eq]
    simp only [hl, ne_eq, not_false_eq_true, and_true]
    rfl

/-- Settles O12. -/
theorem ledsAndCurrentReports : Obligations.LedsAndCurrentReports := by
  refine ⟨fun c lamps s => ⟨fun h => ?_, fun h => ?_⟩, fun c s => ⟨fun h i => ?_, fun h => ?_⟩⟩
  · change execLedOutputReport c lamps s = _
    simp [execLedOutputReport, h]
  · refine ⟨_, execLedOutputReport_active h lamps, rfl, State.link_setLink_same .., fun d hd =>
      State.link_setLink_other s _ (Ne.symm hd), newSent_eq rfl⟩
  · change Host.Outcome.next (offer c i _ s) = _
    rw [offer_silent h]
  · have answer : ∀ i, exec (.getReport c i) s =
        .next { s with sent := s.sent ++ [.report c i (currentReport c i s)] } := fun i => by
      change Host.Outcome.next (offer c i _ s) = _
      rw [offer_active h]
      rfl
    refine ⟨answer _, fun ax ay ha => ?_, answer _, answer _, fun hs => ?_, fun r hs => ?_⟩
    · have : (nth s.pointer.lastAbs c).getD (0, 0) = (ax, ay) := by
        rcases ha with ha | ⟨ha, rfl, rfl⟩ <;> simp [ha]
      rw [answer, currentReport, this]
    · rw [answer, currentReport, hs]
      rfl
    · rw [answer, currentReport, hs]

/-! ## Configurations (R4) -/

/-- A link as a configuration leaves it (R4). -/
def Link.up (l : Link) : Link :=
  { l with state := .active, leds := 0, remoteWake := false, permission := false, tries := 0 }

/-- A link brought up, with what leaves for the console keyboards and the alert channel (R4, R27, R184). -/
theorem bringUp_form (c : Chan) (s : State) : ∃ flag l, (∀ d, inputReports d l = []) ∧
    bringUp c s = ((s.setLink c (s.link c).up).setMgmt
      { s.mgmt with latch := addEvent s.mgmt.latch .linkUp }).alerted flag l := by
  change ∃ flag l, _ ∧ alertOnActive c (latch .linkUp (ledsIfFocus c (s.setLink c (s.link c).up))) = _
  rw [ledsIfFocus_eq]
  generalize hleds : (if (s.setLink c (s.link c).up).focus.channel = some c then
    ledReports (s.setLink c (s.link c).up) else []) = leds
  obtain ⟨f1, l1, h1, e1⟩ := latch_form .linkUp ((s.setLink c (s.link c).up).say leds)
  obtain ⟨f2, l2, h2, e2⟩ := alertOnActive_form c (latch .linkUp ((s.setLink c (s.link c).up).say leds))
  refine ⟨f2, leds ++ (l1 ++ l2), fun d => ?_, ?_⟩
  · have hin : inputReports d leds = [] := by
      rw [← hleds]
      split
      · exact inputReports_ledReports d _
      · rfl
    simp [hin, h1.inputReports d, h2.inputReports d]
  · rw [e2, e1, State.alerted_alerted]
    simp only [State.alerted, State.say, State.setMgmt, List.append_assoc, State.setLink]

end Sys2Proof.Machine
end

section
/-! The loss of a link (R10) and configurations (R4): O6 and O5. -/

namespace Sys2Proof.Machine

/-- Two states that differ in nothing but how their logs are written. -/
theorem State.eq_of_sent {s t : State} (h : t = { s with sent := t.sent }) (hs : s.sent = t.sent) :
    t = s := by rw [h, ← hs]

/-- The units but for the Management Unit and the log, once channel c's link is lost (R10, R96, R145, R152). -/
def State.unlinked (s : State) (c : Chan) : State :=
  { s with
    links := put s.links c .reset
    router := ⟨s.router.entries.map (consumeEntryOf c), put s.router.counts c []⟩
    pointer := { s.pointer with
      buttons := mapAll (consumeButtonOf c) s.pointer.buttons
      held := put s.pointer.held c noButtons
      lastAbs := put s.pointer.lastAbs c none }
    focus := { s.focus with
      dwell := if s.focus.dwell.map (·.candidate) = some c then none else s.focus.dwell }
    player := if s.serves c then none else s.player }

/-- The events of a loss (R10, R96). -/
def State.lossLatch (s : State) (c : Chan) : EventSet :=
  if s.serves c then addEvent (addEvent s.mgmt.latch .linkDown) .macroAborted
  else addEvent s.mgmt.latch .linkDown

theorem playerLost_form (c : Chan) (s : State) : ∃ flag l, OnlyAlerts l ∧ playerLost c s =
    ((setPlayer (if s.serves c then none else s.player) s).setMgmt { s.mgmt with
      latch := if s.serves c then addEvent s.mgmt.latch .macroAborted else s.mgmt.latch }).alerted
        flag l := by
  unfold playerLost
  split
  · exact latch_form .macroAborted (setPlayer none s)
  · exact ⟨_, [], .nil, (s.alerted_self).symm⟩

theorem loseCandidate_eq (c : Chan) (s : State) : loseCandidate c s = s.setFocus { s.focus with
    dwell := if s.focus.dwell.map (·.candidate) = some c then none else s.focus.dwell } := by
  by_cases h : s.focus.dwell.map (·.candidate) = some c
  · obtain ⟨d, hd, rfl⟩ := Option.map_eq_some_iff.1 h
    simp [loseCandidate, hd, cancelDwell]
  · rw [if_neg h]
    change loseCandidate c s = s
    unfold loseCandidate
    split
    · rfl
    · rename_i d hd
      exact if_neg fun hc => h (by simp [hd, hc])

theorem loseAlert_eq (c : Chan) (s : State) : loseAlert c s = s.alerted
    (if s.tables.desk.alertChannel = some c then false else s.mgmt.alertOutstanding) [] := by
  unfold loseAlert
  split
  · simp only [State.alerted, List.append_nil]
    rfl
  · exact s.alerted_self.symm

/-- The end of a loss, after its events (R10, R27, R184). -/
theorem lossEnd_eq (c : Chan) (s : State) :
    loseAlert c ((ledsIfFocus c (loseCandidate c s)).setSlot c none) =
      ((s.setFocus { s.focus with
        dwell := if s.focus.dwell.map (·.candidate) = some c then none else s.focus.dwell }).setMgmt
          { s.mgmt with slots := put s.mgmt.slots c none }).alerted
            (if s.tables.desk.alertChannel = some c then false else s.mgmt.alertOutstanding)
            (if s.focus.channel = some c then ledReports s else []) := by
  rw [loseCandidate_eq, ledsIfFocus_eq, loseAlert_eq]
  refine State.eq_of_sent rfl ?_
  exact (List.append_nil _).symm

/-- The keys, the buttons and the player at a loss, where the log is no matter. -/
theorem loseHeld_alerted (c : Chan) (s : State) (flag : Bool) (l : List Sent) :
    loseButtons c (loseKeys c (s.alerted flag l)) =
      (loseButtons c (loseKeys c s)).alerted flag l := rfl

/-- The start of a loss, up to its events (R10, R96). -/
theorem lossStart_form (c : Chan) (s : State) : ∃ flag l, OnlyAlerts l ∧
    playerLost c (loseButtons c (loseKeys c (latch .linkDown (s.setLink c .reset)))) =
      ((setPlayer (if s.serves c then none else s.player)
        (loseButtons c (loseKeys c (s.setLink c .reset)))).setMgmt
          { s.mgmt with latch := s.lossLatch c }).alerted flag l := by
  obtain ⟨f1, l1, h1, e1⟩ := latch_form .linkDown (s.setLink c .reset)
  rw [e1, loseHeld_alerted]
  generalize hu : loseButtons c (loseKeys c ((s.setLink c .reset).setMgmt
    { (s.setLink c .reset).mgmt with
      latch := addEvent (s.setLink c .reset).mgmt.latch .linkDown })) = u
  obtain ⟨f2, l2, h2, e2⟩ := playerLost_form c (u.alerted f1 l1)
  refine ⟨f2, l1 ++ l2, h1.append h2, e2.trans ?_⟩
  subst hu
  exact State.eq_of_sent rfl (List.append_assoc s.sent l1 l2).symm

/-- What a loss writes, and what leaves with it (R10, R27, R184). -/
theorem loseLink_form (c : Chan) (s : State) : ∃ flag l, OnlyAlerts l ∧
    (s.tables.desk.alertChannel = some c → flag = false) ∧
    loseLink c s = ((s.unlinked c).setMgmt { s.mgmt with
      latch := s.lossLatch c, slots := put s.mgmt.slots c none }).alerted flag
        (l ++ if s.focus.channel = some c then ledReports (s.unlinked c) else []) := by
  obtain ⟨f, l, h, e⟩ := lossStart_form c s
  refine ⟨if s.tables.desk.alertChannel = some c then false else f, l, h, fun h => if_pos h, ?_⟩
  change loseAlert c ((ledsIfFocus c (loseCandidate c (playerLost c (loseButtons c
    (loseKeys c (latch .linkDown (s.setLink c .reset))))))).setSlot c none) = _
  rw [e, lossEnd_eq]
  refine State.eq_of_sent ?_ (List.append_assoc s.sent l _).symm
  rfl

theorem link_loseLink (c : Chan) (s : State) : (loseLink c s).link c = .reset := by
  obtain ⟨_, _, _, _, h⟩ := loseLink_form c s
  rw [h]
  exact nth_put_self ..

/-- Settles O5. -/
theorem configureBringsUp : Obligations.ConfigureBringsUp := by
  refine fun c s => ⟨fun h => ?_, fun h => ?_⟩
  · have hx : exec (.configure c) s = .next (bringUp c s) := by
      change execConfigure c s = _
      rw [execConfigure, if_pos h]
    obtain ⟨flag, l, hl, e⟩ := bringUp_form c s
    rw [e] at hx
    exact ⟨_, hx, rfl, State.link_setLink_same .., fun d hd =>
      State.link_setLink_other s _ (Ne.symm hd), rfl,
        (congrArg (inputReports c) (newSent_eq (s := s) (l := l) rfl)).trans (hl c)⟩
  · have hd : ((loseLink c s).link c).state = .detached := by rw [link_loseLink]; rfl
    refine ⟨loseLink c s, ?_, hd, ?_⟩
    · change execLinkLoss c s = _
      rw [execLinkLoss, if_neg h]
    · change execConfigure c s = execConfigure c (loseLink c s)
      rw [execConfigure, if_neg h, execConfigure, if_pos hd]

theorem ledReportsIn_append (l m : List Sent) :
    ledReportsIn (l ++ m) = ledReportsIn l ++ ledReportsIn m := List.filter_append ..

theorem OnlyAlerts.ledReportsIn {l : List Sent} (h : OnlyAlerts l) : ledReportsIn l = [] := by
  refine List.filter_eq_nil_iff.2 fun o ho => ?_
  obtain ⟨d, b, rfl⟩ := h o ho
  simp

theorem ledReportsIn_ledReports (s : State) : ledReportsIn (ledReports s) = ledReports s := by
  unfold ledReports
  split <;> split <;> rfl

/-- A link that is lost hears nothing of it (R10). -/
theorem reportsTo_loseLink (c : Chan) (s : State) : reportsTo c (newSent s (loseLink c s)) = [] :=
  ((Quiet.loseReset c s c).reports (by simp [Link.reset])).2

/-- Settles O6. -/
theorem linkLossEffects : Obligations.LinkLossEffects := by
  refine fun c s => ⟨fun h => ?_, fun h => ?_⟩
  · change execLinkLoss c s = _
    rw [execLinkLoss, if_pos h]
  · have hx : exec (.linkLoss c) s = .next (loseLink c s) := by
      change execLinkLoss c s = _
      rw [execLinkLoss, if_neg h]
    have quiet := reportsTo_loseLink c s
    obtain ⟨flag, l, hl, hflag, e⟩ := loseLink_form c s
    rw [e] at hx quiet
    refine ⟨_, hx, rfl, nth_put_self .., fun d hd => nth_put_ne _ (Ne.symm hd) _, rfl,
      nth_put_self .., fun d hd => nth_put_ne _ (Ne.symm hd) _, rfl, fun b => ?_,
      nth_put_self .., fun d hd => nth_put_ne _ (Ne.symm hd) _, nth_put_self ..,
      fun d hd => nth_put_ne _ (Ne.symm hd) _, rfl, rfl, rfl, hflag, ?_, quiet⟩
    · change nth (mapAll (consumeButtonOf c) s.pointer.buttons) b = _
      rw [nth_mapAll]
      rcases nth s.pointer.buttons b with _ | _ | ⟨d, st⟩ <;>
        simp [consumeButtonOf, ButtonTarget.isChannel]
    · rw [newSent_eq (s := s) rfl, ledReportsIn_append, hl.ledReportsIn]
      by_cases hf : s.focus.channel = some c
      · rw [if_pos hf, if_pos hf, ledReportsIn_ledReports]
        rfl
      · rw [if_neg hf, if_neg hf]
        rfl

end Sys2Proof.Machine
end

section
/-! Suspends and the remote-wake setting (R5, R94): O7. -/

namespace Sys2Proof.Machine

/-! ## Reading through a latching -/

@[simp] theorem link_latch (e : Event) (s : State) (c : Chan) : (latch e s).link c = s.link c := by
  simp [State.link]

@[simp] theorem counts_latch (e : Event) (s : State) (c : Chan) :
    (latch e s).counts c = s.counts c := by simp [State.counts]

@[simp] theorem link_setPlayer (p : Option Player) (s : State) (c : Chan) :
    (setPlayer p s).link c = s.link c := rfl

@[simp] theorem counts_setPlayer (p : Option Player) (s : State) (c : Chan) :
    (setPlayer p s).counts c = s.counts c := rfl

@[simp] theorem link_setCounts (s : State) (c d : Chan) (m : Counts) :
    (s.setCounts c m).link d = s.link d := rfl

@[simp] theorem counts_setLink (s : State) (c d : Chan) (l : Link) :
    (s.setLink c l).counts d = s.counts d := rfl

/-! ## A player stopped on a link that is not ACTIVE (R92) -/

/-- The codes of a stopped player, out of the counts without a report. -/
def State.stopped (s : State) (pl : Player) : State :=
  setPlayer none (s.setCounts pl.chan
    (pl.pressed.foldl (fun m k => countDown k m) (s.counts pl.chan)))

theorem endMacro_inactive {s : State} {pl : Player} (hp : s.player = some pl)
    (h : (s.link pl.chan).state ≠ .active) (e : Event) :
    endMacro e s = latch e (s.stopped pl) := by
  unfold endMacro
  rw [hp]
  dsimp only
  rw [if_neg h, lowerAll_frame]
  rfl

/-! ## Suspends (R5, R94) -/

/-- A link as a suspend leaves it (R5). -/
def Link.suspended (l : Link) : Link := { l with state := .suspended, permission := l.remoteWake }

theorem suspendLink_eq (c : Chan) (s : State) : suspendLink c s =
    playerSuspended c (latch .suspended (s.setLink c (s.link c).suspended)) := rfl

/-- A suspended link hears nothing of its suspend (R3). -/
theorem reportsTo_suspendLink (c : Chan) (s : State) :
    reportsTo c (newSent s (suspendLink c s)) = [] := by
  have quiet : QuietFor c (s.setLink c (s.link c).suspended) (suspendLink c s) :=
    ((Background.latch .suspended _).trans (.playerSuspended c _)).quiet c
  exact (quiet.reports (by simp [Link.suspended])).2

theorem playerSuspended_idle {c : Chan} {s : State}
    (h : ∀ pl, s.player = some pl → pl.chan = c → pl.playing = false) :
    playerSuspended c s = s := by
  unfold playerSuspended
  split
  · rfl
  · rename_i pl hp
    exact if_neg fun ⟨hc, hplay⟩ => by simp [h pl hp hc] at hplay

theorem playerSuspended_started {s t : State} {pl : Player} (hp : s.player = some pl)
    (hplay : pl.playing = true)
    (h : wakeRequest pl.chan (setPlayer (some { pl with playing := false }) s) = (.started, t)) :
    playerSuspended pl.chan s = t := by simp [playerSuspended, hp, hplay, h]

theorem playerSuspended_denied {s t : State} {pl : Player} (hp : s.player = some pl)
    (hplay : pl.playing = true)
    (h : wakeRequest pl.chan (setPlayer (some { pl with playing := false }) s) = (.denied, t)) :
    playerSuspended pl.chan s = endMacro .macroAborted t := by
  simp [playerSuspended, hp, hplay, h]

theorem link_signalWake (c d : Chan) (n : Nat) (s : State) : (signalWake c n s).link d =
    if c = d then { s.link c with
      state := .waking, window := some (s.chanRec c).wakeWindow, tries := n } else s.link d :=
  State.link_setLink ..

/-- A suspend of the channel that a player plays into, its wake allowed (R94). -/
theorem suspendLink_allowed {s : State} {pl : Player} (hp : s.player = some pl)
    (hplay : pl.playing = true) (hwake : (s.link pl.chan).remoteWake = true) :
    suspendLink pl.chan s = signalWake pl.chan 1 (setPlayer (some { pl with playing := false })
      (latch .suspended (s.setLink pl.chan (s.link pl.chan).suspended))) := by
  exact playerSuspended_started (by simpa using hp) hplay
    (wakeRequest_allowed (by simp) (by simp [hwake]))

/-- A suspend of the channel that a player plays into, its wake denied (R94). -/
theorem suspendLink_denied {s : State} {pl : Player} (hp : s.player = some pl)
    (hplay : pl.playing = true) (hwake : (s.link pl.chan).remoteWake = false) :
    suspendLink pl.chan s = latch .macroAborted ((latch .wakeDenied
      (setPlayer (some { pl with playing := false })
        (latch .suspended (s.setLink pl.chan (s.link pl.chan).suspended)))).stopped
          { pl with playing := false }) := by
  rw [suspendLink_eq, playerSuspended_denied (by simpa using hp) hplay
    (wakeRequest_denied (by simp [Link.suspended]) (by simp [Link.suspended, hwake]))]
  exact endMacro_inactive (by simp) (by simp [Link.suspended]) _

/-- Settles O7. -/
theorem suspendEffects : Obligations.SuspendEffects := by
  intro c s h
  have hx : exec (.suspend c) s = .next (suspendLink c s) := by
    change execSuspend c s = _
    rw [execSuspend, if_pos h]
  have quiet := reportsTo_suspendLink c s
  refine ⟨fun on => ?_, fun hidle => ?_, fun pl hp hc hplay hwake => ?_,
    fun pl hp hc hplay hwake => ?_⟩
  · refine ⟨s.setLink c { s.link c with remoteWake := on }, ?_, rfl, State.link_setLink_same ..,
      fun d hd => State.link_setLink_other s _ (Ne.symm hd)⟩
    change execSetRemoteWake c on s = _
    rw [execSetRemoteWake, if_pos h]
  · have heq : suspendLink c s = latch .suspended (s.setLink c (s.link c).suspended) :=
      playerSuspended_idle (by simpa using hidle)
    obtain ⟨flag, l, hl, e⟩ := latch_form .suspended (s.setLink c (s.link c).suspended)
    rw [heq, e] at hx quiet
    exact ⟨_, hx, rfl, State.link_setLink_same .., fun d hd =>
      State.link_setLink_other s _ (Ne.symm hd), rfl, quiet⟩
  · subst hc
    obtain ⟨flag, l, hl, e⟩ := latch_form .suspended (s.setLink pl.chan (s.link pl.chan).suspended)
    have heq := suspendLink_allowed hp hplay hwake
    have hlink : ∀ d, (suspendLink pl.chan s).link d = if pl.chan = d then { s.link pl.chan with
        state := .waking, permission := true, window := some (s.chanRec pl.chan).wakeWindow,
        tries := 1 } else s.link d := fun d => by
      rw [heq, link_signalWake]
      by_cases hd : pl.chan = d
      · simp [hd, Link.suspended, ← hwake, State.chanRec]
      · simp [hd, State.link_setLink_other]
    have hevent : hasEvent (suspendLink pl.chan s).mgmt.latch .suspended = true := by
      simp [heq, hasEvent_addEvent]
    have hsent : newSent s (suspendLink pl.chan s) = l ++ [.wakeSignal pl.chan] := newSent_eq (by
      rw [heq, e]
      exact List.append_assoc ..)
    refine ⟨_, hx, by rw [heq, e]; rfl, by simp [heq], by simp [hlink], fun d hd => ?_, hevent,
      by simp [hsent], quiet⟩
    rw [hlink, if_neg (Ne.symm hd)]
  · subst hc
    have heq := suspendLink_denied hp hplay hwake
    refine ⟨_, hx, ?_, ?_, fun d hd => ?_, ?_, ?_, ?_, ?_, ?_, quiet⟩ <;> rw [heq]
    · simp [State.stopped]
    · simp [State.stopped, Link.suspended, hwake]
    · simp [State.stopped, State.link_setLink_other _ _ (Ne.symm hd)]
    all_goals simp [State.stopped, hasEvent_addEvent]

end Sys2Proof.Machine
end

section
/-! Resumes (R6, R17, R95): O8. -/

namespace Sys2Proof.Machine

/-- A link as a resume leaves it (R6). -/
def Link.awake (l : Link) : Link :=
  { l with state := .active, window := none, tries := 0, permission := false }

/-- The two resume reports (R6). -/
def State.resumeReports (s : State) (c : Chan) : List Sent :=
  [.report c .keyboard (keyboardReportBytes (s.pressedSet c)),
   .report c .relativePointer (relativeBytes (s.held c) 0 0 0 0)]

theorem inputReports_resumeReports (s : State) (c : Chan) :
    inputReports c (s.resumeReports c) =
      [(.keyboard, keyboardReportBytes (s.pressedSet c)),
       (.relativePointer, relativeBytes (s.held c) 0 0 0 0)] := by
  simp [inputReports, reportsTo, State.resumeReports]

theorem fullStateReports_active {c : Chan} {s : State} (h : (s.link c).state = .active) :
    fullStateReports c s = s.say (s.resumeReports c) := by
  have hk : sendKeyboard c s =
      s.say [.report c .keyboard (keyboardReportBytes (s.pressedSet c))] := offer_active h _ _
  rw [fullStateReports, hk]
  refine (offer_active (c := c) (s := s.say _) h _ _).trans ?_
  exact State.say_say s _ [_]

theorem wakeUp_form (c : Chan) (s : State) : ∃ flag l, OnlyAlerts l ∧ wakeUp c s =
    ((s.setLink c (s.link c).awake).setMgmt
      { s.mgmt with latch := addEvent s.mgmt.latch .resumed }).alerted flag l := by
  obtain ⟨f1, l1, h1, e1⟩ := latch_form .resumed (s.setLink c (s.link c).awake)
  obtain ⟨f2, l2, h2, e2⟩ := alertOnActive_form c (latch .resumed (s.setLink c (s.link c).awake))
  refine ⟨f2, l1 ++ l2, h1.append h2, e2.trans ?_⟩
  rw [e1, State.alerted_alerted]
  rfl

/-- Steps 1 to 3 of R6: the link awake, RESUMED latched, and the resume reports after any alert. -/
theorem resumeStart_form (c : Chan) (s : State) : ∃ flag l, OnlyAlerts l ∧
    fullStateReports c (wakeUp c s) = ((s.setLink c (s.link c).awake).setMgmt
      { s.mgmt with latch := addEvent s.mgmt.latch .resumed }).alerted flag
        (l ++ s.resumeReports c) := by
  obtain ⟨flag, l, hl, e⟩ := wakeUp_form c s
  have hactive : ((wakeUp c s).link c).state = .active := by
    rw [e]
    exact congrArg Link.state (State.link_setLink_same s c _)
  refine ⟨flag, l, hl, (fullStateReports_active hactive).trans ?_⟩
  rw [e]
  exact State.eq_of_sent rfl (List.append_assoc s.sent l _).symm

theorem playerResumed_idle {c : Chan} {s : State} (h : s.serves c = false) :
    playerResumed c s = s := by
  unfold playerResumed
  split
  · rfl
  · rename_i pl hp
    exact if_neg fun hc => by simp [State.serves, hp, hc] at h

theorem resumeLink_idle {c : Chan} {s : State} (h : s.serves c = false) :
    resumeLink c s = drainItems c (fullStateReports c (wakeUp c s)) := by
  have hs : (fullStateReports c (wakeUp c s)).serves c = false := by
    obtain ⟨_, _, _, e⟩ := resumeStart_form c s
    rw [e]
    exact h
  rw [resumeLink, playerResumed_idle hs]
  simp [hs]

theorem resumeLink_served {s : State} {pl : Player} (hp : s.player = some pl) :
    resumeLink pl.chan s = setPlayer (some { pl with playing := true })
      (fullStateReports pl.chan (wakeUp pl.chan s)) := by
  have hs : (fullStateReports pl.chan (wakeUp pl.chan s)).player = some pl := by
    obtain ⟨_, _, _, e⟩ := resumeStart_form pl.chan s
    rw [e]
    exact hp
  have hr : playerResumed pl.chan (fullStateReports pl.chan (wakeUp pl.chan s)) =
      setPlayer (some { pl with playing := true })
        (fullStateReports pl.chan (wakeUp pl.chan s)) := by
    unfold playerResumed
    rw [hs]
    exact if_pos rfl
  rw [resumeLink, hr]
  simp [State.serves]

/-! ## What a drain leaves (R17) -/

/-- A state with the Key Router, the Pointer Engine and the log of another. -/
def State.drainedTo (s t : State) : State :=
  { s with router := t.router, pointer := t.pointer, sent := t.sent }

/-- A drain writes the Key Router, the Pointer Engine and the log. -/
theorem drainItem_frame (c : Chan) (s : State) (i : HoldItem) :
    drainItem c s i = s.drainedTo (drainItem c s i) := by
  have eta : ∀ t : State, t = ⟨t.tables, t.console, t.router, t.attention, t.focus, t.pointer,
    t.display, t.links, t.player, t.skipped, t.mgmt, t.store, t.free, t.sent, t.pending⟩ :=
    fun _ => rfl
  refine (eta (drainItem c s i)).trans ?_
  simp [State.drainedTo]

theorem foldl_drainItem_frame (c : Chan) (q : List HoldItem) (s : State) :
    q.foldl (drainItem c) s = s.drainedTo (q.foldl (drainItem c) s) := by
  induction q generalizing s with
  | nil => rfl
  | cons i q ih =>
    rw [List.foldl_cons, ih, drainItem_frame c s i]
    rfl

/-- The state in which the queue of a resume is drained: the reports sent, the queue emptied (R6, R17). -/
def State.resumed (s : State) (c : Chan) (flag : Bool) (l : List Sent) : State :=
  emptyQueue c (((s.setLink c (s.link c).awake).setMgmt
    { s.mgmt with latch := addEvent s.mgmt.latch .resumed }).alerted flag (l ++ s.resumeReports c))

theorem link_resumed (s : State) (c d : Chan) (flag : Bool) (l : List Sent) :
    (s.resumed c flag l).link d =
      if c = d then { (s.link c).awake with queue := [], reserved := 0 } else s.link d := by
  have awake : ∀ d, (((s.setLink c (s.link c).awake).setMgmt
      { s.mgmt with latch := addEvent s.mgmt.latch .resumed }).alerted flag
        (l ++ s.resumeReports c)).link d = if c = d then (s.link c).awake else s.link d :=
    fun d => State.link_setLink ..
  rw [State.resumed, emptyQueue, State.link_setLink, awake, awake]
  split
  · rw [if_pos rfl]
  · rfl

/-- A resume of a channel that no player serves (R6, R17). -/
theorem resumeLink_drains {c : Chan} {s : State} (h : s.serves c = false) :
    ∃ flag l, OnlyAlerts l ∧
      resumeLink c s = (s.link c).queue.foldl (drainItem c) (s.resumed c flag l) := by
  obtain ⟨flag, l, hl, e⟩ := resumeStart_form c s
  refine ⟨flag, l, hl, ?_⟩
  have hqueue : ((fullStateReports c (wakeUp c s)).link c).queue = (s.link c).queue := by
    rw [e]
    have := congrArg Link.queue (State.link_setLink_same s c (s.link c).awake)
    exact this
  rw [resumeLink_idle h, drainItems, hqueue, e]
  rfl

/-- Settles O8. -/
theorem resumeEffects : Obligations.ResumeEffects := by
  refine fun c s => ⟨fun h => ?_, fun h => ?_⟩
  · change execResume c s = _
    simp [execResume, h]
  have hx : exec (.resume c) s = .next (resumeLink c s) := by
    change execResume c s = _
    rcases h with h | h <;> simp [execResume, h]
  refine ⟨fun hidle => ?_, fun pl hp hc => ?_⟩
  · obtain ⟨flag, l, hl, e⟩ := resumeLink_drains hidle
    have hframe := foldl_drainItem_frame c (s.link c).queue (s.resumed c flag l)
    have hlink := link_resumed s c
    refine ⟨_, hx, by rw [e, hframe]; rfl, ?_, fun d hd => ?_, ?_, s.resumed c flag l, ?_, ?_, e⟩
    · rw [e, hframe]
      exact (hlink c flag l).trans (if_pos rfl)
    · rw [e, hframe]
      exact (hlink d flag l).trans (if_neg (Ne.symm hd))
    · rw [e, hframe]
      change hasEvent (addEvent s.mgmt.latch .resumed) .resumed = true
      simp [hasEvent_addEvent]
    · rw [e, hframe]
      rfl
    · rw [newSent_eq (s := s) (l := l ++ s.resumeReports c) rfl, inputReports_append,
        hl.inputReports, inputReports_resumeReports]
      rfl
  · subst hc
    obtain ⟨flag, l, hl, e⟩ := resumeStart_form pl.chan s
    rw [resumeLink_served hp, e] at hx
    refine ⟨_, hx, rfl, rfl, State.link_setLink_same .., fun d hd =>
      State.link_setLink_other s _ (Ne.symm hd), ?_, ?_⟩
    · change hasEvent (addEvent s.mgmt.latch .resumed) .resumed = true
      simp [hasEvent_addEvent]
    · rw [newSent_eq (s := s) (l := l ++ s.resumeReports pl.chan) rfl, inputReports_append, hl.inputReports,
        inputReports_resumeReports]
      rfl

end Sys2Proof.Machine
end

section
/-! The expiry of a wake window (R8, R9, R18): O10. -/

namespace Sys2Proof.Machine

/-! ## What a discard writes (R18) -/

/-- An entry once queued presses that name it are discarded. -/
def KeyEntry.dropped (e : KeyEntry) (q : List HoldItem) : KeyEntry :=
  if q.any (·.namesKey e.port e.code) then { e with target := .consumed } else e

theorem KeyEntry.dropped_dropped (e : KeyEntry) (i : HoldItem) (q : List HoldItem) :
    (e.dropped [i]).dropped q = e.dropped (i :: q) := by
  unfold dropped
  by_cases hi : i.namesKey e.port e.code = true <;> simp [hi]

theorem entries_discardItem (s : State) (i : HoldItem) :
    (discardItem s i).router.entries = s.router.entries.map (·.dropped [i]) := by
  have named : ∀ p k, setTarget p k .consumed s.router.entries = s.router.entries.map fun e =>
      if p = e.port ∧ k = e.code then { e with target := .consumed } else e :=
    fun p k => List.map_congr_left fun e _ => by
      simp only [Bool.and_eq_true, beq_iff_eq, eq_comm (a := e.port), eq_comm (a := e.code)]
  rcases i with ⟨p, k, t, _ | _⟩ | ⟨p, k, t, _ | _⟩ | ⟨b, _ | _⟩ | ⟨b, _ | _⟩ | ⟨p, k, t, _ | _⟩ <;>
    simp [discardItem, KeyEntry.dropped, HoldItem.namesKey, State.targetKey, named]

theorem counts_discardItem (s : State) (i : HoldItem) :
    (discardItem s i).router.counts = s.router.counts := by
  rcases i with ⟨p, k, t, _ | _⟩ | ⟨p, k, t, _ | _⟩ | ⟨b, _ | _⟩ | ⟨b, _ | _⟩ | ⟨p, k, t, _ | _⟩ <;> rfl

theorem buttons_discardItem (s : State) (i : HoldItem) (b : Button) :
    nth (discardItem s i).pointer.buttons b =
      if i = .buttonDown b true then some .consumed else nth s.pointer.buttons b := by
  rcases i with ⟨p, k, t, _ | _⟩ | ⟨p, k, t, _ | _⟩ | ⟨d, _ | _⟩ | ⟨d, _ | _⟩ | ⟨p, k, t, _ | _⟩ <;>
    simp [discardItem, State.targetKey, State.setEntries, State.setButton, nth_put]

/-- What the discard of a queue writes of the Key Router. -/
theorem router_foldl_discardItem (q : List HoldItem) (s : State) :
    (q.foldl discardItem s).router.entries = s.router.entries.map (·.dropped q) ∧
      (q.foldl discardItem s).router.counts = s.router.counts := by
  induction q generalizing s with
  | nil => exact ⟨(List.map_id' _).symm, rfl⟩
  | cons i q ih =>
    obtain ⟨he, hc⟩ := ih (discardItem s i)
    refine ⟨?_, hc.trans (counts_discardItem s i)⟩
    rw [List.foldl_cons, he, entries_discardItem, List.map_map]
    exact List.map_congr_left fun e _ => e.dropped_dropped i q

/-- What it writes of the button table. -/
theorem buttons_foldl_discardItem (q : List HoldItem) (s : State) (b : Button) :
    nth (q.foldl discardItem s).pointer.buttons b =
      if q.any (fun i => i == .buttonDown b true) then some .consumed
      else nth s.pointer.buttons b := by
  induction q generalizing s with
  | nil => rfl
  | cons i q ih =>
    rw [List.foldl_cons, ih, buttons_discardItem]
    by_cases hi : i = .buttonDown b true <;> simp [hi]

/-! ## A failed wake (R9, R18) -/

/-- A state whose channel c's queue is discarded, its link as a failed wake leaves it (R9, R18). -/
def State.wakeFailed (s : State) (c : Chan) : State :=
  { s with
    links := put s.links c { s.link c with
      state := .suspended, window := none, tries := 0, queue := [], reserved := 0 }
    router := ((s.link c).queue.foldl discardItem s).router
    pointer := ((s.link c).queue.foldl discardItem s).pointer }

/-- A discard looks at the tables alone. -/
theorem foldl_discardItem_setLink (q : List HoldItem) (s : State) (c : Chan) (l : Link) :
    q.foldl discardItem (s.setLink c l) = (q.foldl discardItem s).setLink c l := by
  induction q generalizing s with
  | nil => rfl
  | cons i q ih =>
    rw [List.foldl_cons, List.foldl_cons, ← ih]
    rcases i with ⟨p, k, t, _ | _⟩ | ⟨p, k, t, _ | _⟩ | ⟨b, _ | _⟩ | ⟨b, _ | _⟩ | ⟨p, k, t, _ | _⟩ <;> rfl

theorem discardQueue_wakeFailed (c : Chan) (s : State) :
    discardQueue c (s.setLink c { s.link c with state := .suspended, window := none, tries := 0 }) =
      s.wakeFailed c := by
  rw [discardQueue, State.link_setLink_same, foldl_discardItem_setLink, emptyQueue,
    State.link_setLink_same, foldl_discardItem_frame]
  simp only [State.setLink, put_put]
  rfl

/-- A wake that fails, up to what it means to a player (R9). -/
theorem failWake_eq (c : Chan) (s : State) : failWake c s =
    playerWakeFailed c (requestCue .fail (latch .wakeFailed (s.wakeFailed c))) := by
  rw [← discardQueue_wakeFailed]
  rfl

/-- A failed wake of a channel that no player serves (R9). -/
theorem failWake_idle {c : Chan} {s : State} (h : s.serves c = false) :
    ∃ flag l, failWake c s = requestCue .fail (((s.wakeFailed c).setMgmt
      { s.mgmt with latch := addEvent s.mgmt.latch .wakeFailed }).alerted flag l) := by
  obtain ⟨flag, l, -, e⟩ := latch_form .wakeFailed (s.wakeFailed c)
  refine ⟨flag, l, ?_⟩
  rw [failWake_eq, e]
  unfold playerWakeFailed
  refine if_neg ?_
  change ¬ s.serves c = true
  simp [h]

/-- A failed wake of the channel that a player serves (R9, R95). -/
theorem failWake_served {s : State} {pl : Player} (hp : s.player = some pl) :
    ∃ flag l, failWake pl.chan s = ((requestCue .fail ((s.wakeFailed pl.chan).stopped pl)).setMgmt
      { s.mgmt with
        latch := addEvent (addEvent s.mgmt.latch .wakeFailed) .macroAborted }).alerted flag l := by
  obtain ⟨f1, l1, -, e1⟩ := latch_form .wakeFailed (s.wakeFailed pl.chan)
  have hserves : (requestCue .fail (latch .wakeFailed (s.wakeFailed pl.chan))).serves pl.chan =
      true := by
    simp [State.serves, State.wakeFailed, hp]
  have hlink : ((requestCue .fail (latch .wakeFailed (s.wakeFailed pl.chan))).link pl.chan).state ≠
      .active := by
    simp [State.link, State.wakeFailed]
  obtain ⟨f2, l2, -, e2⟩ := latch_form .macroAborted
    ((requestCue .fail (latch .wakeFailed (s.wakeFailed pl.chan))).stopped pl)
  refine ⟨f2, l1 ++ l2, ?_⟩
  rw [failWake_eq, playerWakeFailed, if_pos hserves, endMacro_inactive (by simp [State.wakeFailed, hp]) hlink, e2, e1]
  exact State.eq_of_sent rfl (List.append_assoc s.sent l1 l2).symm

/-- Settles O10. -/
theorem wakeWindowExpiry : Obligations.WakeWindowExpiry := by
  refine fun c s => ⟨fun h => ?_, fun h htries => ?_, fun h htries => ?_⟩
  · change execWakeWindowExpiry c s = _
    rw [execWakeWindowExpiry, if_neg h]
  · refine ⟨signalWake c ((s.link c).tries + 1) s, ?_, rfl, ?_, fun d hd => ?_⟩
    · change execWakeWindowExpiry c s = _
      rw [execWakeWindowExpiry, if_pos h, if_pos htries]
    · rw [link_signalWake, if_pos rfl, ← h]
    · rw [link_signalWake, if_neg (Ne.symm hd)]
  · have hx : exec (.wakeWindowExpiry c) s = .next (failWake c s) := by
      change execWakeWindowExpiry c s = _
      rw [execWakeWindowExpiry, if_pos h, if_neg (not_lt.2 htries)]
    have quiet : reportsTo c (newSent s (failWake c s)) = [] :=
      (((Background.failWake c s).quiet c).reports (by simp [h])).2
    obtain ⟨hentries, hcounts⟩ := router_foldl_discardItem (s.link c).queue s
    have hbuttons := buttons_foldl_discardItem (s.link c).queue s
    by_cases hs : s.serves c = true
    · obtain ⟨pl, hp, rfl⟩ : ∃ pl, s.player = some pl ∧ pl.chan = c := by
        unfold State.serves at hs
        split at hs
        · cases hs
        · exact ⟨_, ‹_›, by simpa using hs⟩
      obtain ⟨flag, l, e⟩ := failWake_served hp
      rw [e] at hx quiet
      refine ⟨_, hx, rfl, nth_put_self .., fun d hd => nth_put_ne _ (Ne.symm hd) _, rfl, hentries,
        hbuttons, ?_, fun hn => absurd hs (by simp [hn]), fun _ => ⟨rfl, ?_⟩, quiet⟩
      · change hasEvent (addEvent (addEvent s.mgmt.latch .wakeFailed) .macroAborted) .wakeFailed = true
        simp [hasEvent_addEvent]
      · change hasEvent (addEvent (addEvent s.mgmt.latch .wakeFailed) .macroAborted) .macroAborted = true
        simp [hasEvent_addEvent]
    · obtain ⟨flag, l, e⟩ := failWake_idle (c := c) (s := s) (by simpa using hs)
      rw [e] at hx quiet
      refine ⟨_, hx, rfl, nth_put_self .., fun d hd => nth_put_ne _ (Ne.symm hd) _, rfl, hentries,
        hbuttons, ?_, fun _ => ⟨rfl, hcounts⟩, fun hn => absurd hn hs, quiet⟩
      change hasEvent (addEvent s.mgmt.latch .wakeFailed) .wakeFailed = true
      simp [hasEvent_addEvent]

end Sys2Proof.Machine
end

section
/-! What a power-on leaves in every unit (R21, R42, R66, R82, R98, R122, R147, R159, R180, R181): O4. -/

namespace Sys2Proof.Machine

/-! ## Nothing is sent while every link is DETACHED -/

/-- Every link is DETACHED, as a power-on leaves them (R21). -/
def AllDetached (s : State) : Prop := ∀ c, (s.link c).state = .detached

namespace AllDetached

variable {s t : State}

theorem of_links (h : AllDetached s) (hl : t.links = s.links) : AllDetached t := fun c => by
  rw [State.link, hl]
  exact h c

theorem latch (h : AllDetached s) (e : Event) :
    latch e s = s.setMgmt { s.mgmt with latch := addEvent s.mgmt.latch e } := by
  have detached : AllDetached (s.setMgmt { s.mgmt with latch := addEvent s.mgmt.latch e }) := h
  have ready : (s.setMgmt { s.mgmt with latch := addEvent s.mgmt.latch e }).alertReady = none := by
    unfold State.alertReady
    split
    · rfl
    · split
      · rfl
      · exact if_neg (by rw [detached]; exact nofun)
  unfold Machine.latch
  dsimp only
  rw [ready]
  split <;> rfl

theorem deliverMotion (h : AllDetached s) (entered : Bool) (wheel pan : Int) :
    deliverMotion entered wheel pan s = s := by
  unfold Machine.deliverMotion
  split
  · rfl
  · exact if_neg (by simp [State.deliverable, h _])

theorem pointerNotice (h : AllDetached s) (new : Option Chan) :
    pointerNotice new s = cancelDwell s := by
  have detached : ∀ c, ((cancelDwell s).link c).state = .detached := h
  unfold Machine.pointerNotice
  dsimp only
  split
  · rfl
  · split
    · rfl
    · exact if_neg (by simp [State.eligibleButPolicy, detached])

end AllDetached

theorem cancelDwell_idle {s : State} (h : s.focus.dwell = none) : cancelDwell s = s := by
  simp only [cancelDwell, ← h]
  rfl

/-! ## The desk pointer at power-on (R142, R147) -/

/-- The desk pointer on the lowest live monitor, or parked (R142). -/
def State.homePointer (s : State) : Pointer :=
  match s.liveMonitors with
  | [] => .reset
  | m :: _ => { Pointer.reset with
      x := (centreOf (s.monitorRect m)).1, y := (centreOf (s.monitorRect m)).2, parked := false }

theorem homePointer_none {s : State} (h : s.liveMonitors = []) : s.homePointer = .reset := by
  simp [State.homePointer, h]

theorem homePointer_some {s : State} {m : Monitor} {ms : List Monitor}
    (h : s.liveMonitors = m :: ms) : s.homePointer = { Pointer.reset with
      x := (centreOf (s.monitorRect m)).1, y := (centreOf (s.monitorRect m)).2,
      parked := false } := by
  simp [State.homePointer, h]

/-- Of the pointer's records, a re-homing writes its place alone. -/
theorem homePointer_eq (s : State) : s.homePointer = { Pointer.reset with
    x := s.homePointer.x, y := s.homePointer.y, parked := s.homePointer.parked } := by
  cases h : s.liveMonitors with
  | nil => rw [homePointer_none h]
  | cons m ms => rw [homePointer_some h]

theorem homePointer_channel (s : State) : s.homePointer.channel = none := by
  rw [homePointer_eq]
  rfl

theorem rehomeOrPark_reset {s : State} (h : s.pointer = .reset) :
    rehomeOrPark s = s.setPointer s.homePointer := by
  have parked : s.pointer.parked = true := by rw [h]; rfl
  unfold rehomeOrPark
  cases hl : s.liveMonitors with
  | nil =>
    rw [homePointer_none hl, ← h]
    exact if_pos parked
  | cons m ms =>
    rw [homePointer_some hl]
    dsimp only
    rw [if_pos parked, rehome, h]
    rfl

/-- The owner taken afresh at power-on, when no pointer channel is set and nothing can be sent (R143). -/
theorem ownerAndPosition_powerOn {s : State} (hd : AllDetached s)
    (hf : s.focus.dwell = none) : ownerAndPosition s = setPointerChannel s.ownerOfPointer s := by
  have owner : (takeOwner s).2 = setPointerChannel s.ownerOfPointer s := by
    unfold takeOwner
    split
    · rename_i h
      rw [h]
      rfl
    · have hset : AllDetached (setPointerChannel s.ownerOfPointer s) := hd
      exact (hset.pointerNotice _).trans (cancelDwell_idle hf)
  have still : AllDetached (setPointerChannel s.ownerOfPointer s) := hd
  unfold ownerAndPosition
  dsimp only
  rw [owner, still.deliverMotion]
  split <;> rfl

/-- The desk notice of a power-on (R142 to R144). -/
theorem deskNotice_powerOn {s : State} (hd : AllDetached s) (hp : s.pointer = .reset)
    (hf : s.focus.dwell = none) : deskNotice s = s.setPointer { s.homePointer with
      channel := if s.captive then none
        else (s.setPointer s.homePointer).ownerOfPointer } := by
  have hchannel := homePointer_channel s
  unfold deskNotice
  rw [rehomeOrPark_reset hp]
  dsimp only
  by_cases hc : s.captive = true
  · have captive : (s.setPointer s.homePointer).captive = true := hc
    rw [if_pos captive, if_pos hc, ← hchannel]
    exact if_neg fun h => h.2 hchannel
  · have captive : ¬ (s.setPointer s.homePointer).captive = true := hc
    rw [if_neg captive, if_neg hc]
    exact ownerAndPosition_powerOn (s := s.setPointer s.homePointer) hd hf

/-! ## The layouts and the pictures at power-on (R122) -/

/-- Between two states of a power-on the monitors' runtimes and the latch change, nothing else. -/
def Booting (s t : State) : Prop :=
  t = { s with
    display := { s.display with monitors := t.display.monitors }
    mgmt := { s.mgmt with latch := t.mgmt.latch } }

namespace Booting

variable {s t u : State}

theorem refl (s : State) : Booting s s := rfl

theorem trans (h : Booting s t) (k : Booting t u) : Booting s u := by
  unfold Booting at h k ⊢
  rw [k, h]

theorem allDetached (h : Booting s t) (hs : AllDetached s) : AllDetached t :=
  hs.of_links (by rw [h])

theorem layoutOk (h : Booting s t) (m : Monitor) (l : Layout) :
    t.layoutOk m l = s.layoutOk m l := by rw [h]; rfl

end Booting

/-- What the layout of one monitor at power-on comes to (R122). -/
structure LayoutStarted (m : Monitor) (s t : State) : Prop where
  ok : s.layoutOk m (t.monitorRun m).active = true
  preset : ∀ l, nth (nth s.tables.presets 0) m = some l → s.layoutOk m l = true →
    (t.monitorRun m).active = l ∧ (t.monitorRun m).activeOrigin = .preset 0
  blank : (∀ l, nth (nth s.tables.presets 0) m = some l → s.layoutOk m l = false) →
    (t.monitorRun m).active = blankLayout (nth s.tables.monitors m) ∧
      (t.monitorRun m).activeOrigin = .blankDefault
  geometry : ∀ l, nth (nth s.tables.presets 0) m = some l → geometryOk s.tables m l = false →
    hasEvent t.mgmt.latch .layoutRefused = true
  mix : ∀ l, nth (nth s.tables.presets 0) m = some l →
    mixOk s.tables s.mgmt.policy l = false → hasEvent t.mgmt.latch .mixRefused = true

/-- What the layouts of some monitors at power-on leave of the rest (R122). -/
structure LayoutStep (ms : List Monitor) (s t : State) : Prop where
  booting : Booting s t
  other : ∀ k, k ∉ ms → t.monitorRun k = s.monitorRun k
  runs : ∀ k, ∃ l o, t.monitorRun k = { s.monitorRun k with active := l, activeOrigin := o }
  stays : ∀ e, hasEvent s.mgmt.latch e = true → hasEvent t.mgmt.latch e = true
  only : ∀ e, hasEvent t.mgmt.latch e = true →
    hasEvent s.mgmt.latch e = true ∨ e = .layoutRefused ∨ e = .mixRefused

theorem layoutOk_blank (s : State) (m : Monitor) :
    s.layoutOk m (blankLayout (nth s.tables.monitors m)) = true := by
  simp [State.layoutOk, geometryOk, mixOk, blankLayout, tileFits, groupsOf, tileGroup]

/-- The latch with the events of a failed check (R114). -/
def refusalLatch (g x : Bool) (es : EventSet) : EventSet :=
  if x then addEvent (if g then addEvent es .layoutRefused else es) .mixRefused
  else if g then addEvent es .layoutRefused else es

theorem AllDetached.latchRefusals {s : State} (h : AllDetached s) (g x : Bool) :
    latchRefusals g x s = s.setMgmt { s.mgmt with latch := refusalLatch g x s.mgmt.latch } := by
  have h1 : AllDetached (s.setMgmt { s.mgmt with
    latch := addEvent s.mgmt.latch .layoutRefused }) := h
  unfold Machine.latchRefusals
  cases g <;> cases x
  · rfl
  · exact h.latch .mixRefused
  · exact h.latch .layoutRefused
  · dsimp only
    rw [if_pos rfl, if_pos rfl, h.latch, h1.latch]
    rfl

theorem hasEvent_refusalLatch (g x : Bool) (es : EventSet) (e : Event) :
    hasEvent (refusalLatch g x es) e =
      (hasEvent es e || (g && Event.layoutRefused == e) || (x && Event.mixRefused == e)) := by
  unfold refusalLatch
  cases g <;> cases x <;> simp [hasEvent_addEvent]

/-- A monitor's layout set and the events of a refusal latched: its start, where they fit its preset's part. -/
theorem layoutStarted_intro {m : Monitor} {s : State} {l : Layout} {o : Origin} {g x : Bool}
    (hl : s.layoutOk m l = true)
    (preset : ∀ k, nth (nth s.tables.presets 0) m = some k → s.layoutOk m k = true →
      l = k ∧ o = .preset 0)
    (blank : (∀ k, nth (nth s.tables.presets 0) m = some k → s.layoutOk m k = false) →
      l = blankLayout (nth s.tables.monitors m) ∧ o = .blankDefault)
    (geometry : ∀ k, nth (nth s.tables.presets 0) m = some k →
      geometryOk s.tables m k = false → g = true)
    (mix : ∀ k, nth (nth s.tables.presets 0) m = some k →
      mixOk s.tables s.mgmt.policy k = false → x = true) :
    LayoutStarted m s ((s.setMonitorRun m { s.monitorRun m with
        active := l, activeOrigin := o }).setMgmt
          { s.mgmt with latch := refusalLatch g x s.mgmt.latch }) ∧
      LayoutStep [m] s ((s.setMonitorRun m { s.monitorRun m with
        active := l, activeOrigin := o }).setMgmt
          { s.mgmt with latch := refusalLatch g x s.mgmt.latch }) := by
  have run : ((s.setMonitorRun m { s.monitorRun m with active := l, activeOrigin := o }).setMgmt
      { s.mgmt with latch := refusalLatch g x s.mgmt.latch }).monitorRun m =
        { s.monitorRun m with active := l, activeOrigin := o } := by
    refine (State.monitorRun_setMonitorRun s m m _).trans (if_pos rfl)
  have other : ∀ k, k ≠ m → ((s.setMonitorRun m { s.monitorRun m with
      active := l, activeOrigin := o }).setMgmt
        { s.mgmt with latch := refusalLatch g x s.mgmt.latch }).monitorRun k = s.monitorRun k :=
    fun k hk => (State.monitorRun_setMonitorRun s m k _).trans (if_neg (Ne.symm hk))
  refine ⟨⟨by rw [run]; exact hl, by rw [run]; exact preset, by rw [run]; exact blank,
    fun k hk hg => ?_, fun k hk hx => ?_⟩, rfl, fun k hk => other k (by simpa using hk),
    fun k => ?_, fun e he => ?_, fun e he => ?_⟩
  · rw [State.setMgmt_mgmt, hasEvent_refusalLatch, geometry k hk hg]
    simp
  · rw [State.setMgmt_mgmt, hasEvent_refusalLatch, mix k hk hx]
    simp
  · by_cases hk : k = m
    · subst hk; exact ⟨l, o, run⟩
    · exact ⟨_, _, other k hk⟩
  · rw [State.setMgmt_mgmt, hasEvent_refusalLatch, he]
    rfl
  · rw [State.setMgmt_mgmt, hasEvent_refusalLatch] at he
    grind

theorem layoutStarted_powerOnLayout {s : State} (hd : AllDetached s) (m : Monitor) :
    LayoutStarted m s (powerOnLayout s m) ∧ LayoutStep [m] s (powerOnLayout s m) := by
  have dark : ∀ r, AllDetached (s.setMonitorRun m r) := fun _ => hd
  have hblank := layoutOk_blank s m
  unfold powerOnLayout
  dsimp only
  split
  · rename_i hnone
    exact layoutStarted_intro (g := false) (x := false) hblank (by simp [hnone]) (fun _ => ⟨rfl, rfl⟩)
      (by simp [hnone]) (by simp [hnone])
  · rename_i l hsome
    have hpart : ∀ k, nth (nth s.tables.presets 0) m = some k → k = l := fun k hk =>
      Option.some.inj (hk.symm.trans hsome)
    split
    · rename_i hok
      have hok' := Bool.and_eq_true_iff.1 hok
      refine layoutStarted_intro (g := false) (x := false) hok (fun k hk _ => ⟨(hpart k hk).symm, rfl⟩)
        (fun hb => ?_) (fun k hk hg => ?_) fun k hk hx => ?_
      · simp [hb l hsome] at hok
      · simp [hpart k hk, hok'.1] at hg
      · simp [hpart k hk, hok'.2] at hx
    · rename_i hok
      rw [(dark _).latchRefusals]
      refine layoutStarted_intro hblank (fun k hk hk' => ?_) (fun _ => ⟨rfl, rfl⟩) (fun k hk hg => ?_)
        fun k hk hx => ?_
      · exact absurd (hpart k hk ▸ hk') hok
      · simp [← hpart k hk, hg]
      · simp [← hpart k hk, hx]

end Sys2Proof.Machine
end

section
/-! The whole of a power-on: the layouts and pictures of every monitor (R122), and O4. -/

namespace Sys2Proof.Machine

/-! ## The monitors one after the other (R122) -/

theorem LayoutStep.trans {ms ns : List Monitor} {s t u : State} (h : LayoutStep ms s t)
    (k : LayoutStep ns t u) : LayoutStep (ms ++ ns) s u where
  booting := h.booting.trans k.booting
  other m hm := by
    simp only [List.mem_append, not_or] at hm
    exact (k.other m hm.2).trans (h.other m hm.1)
  runs m := by
    obtain ⟨l, o, hm⟩ := h.runs m
    obtain ⟨l', o', km⟩ := k.runs m
    exact ⟨l', o', by rw [km, hm]⟩
  stays e he := k.stays e (h.stays e he)
  only e he := (k.only e he).elim (h.only e) .inr

/-- A monitor's start looks at its own layout and at the latch, whatever comes after it. -/
theorem LayoutStarted.later {m : Monitor} {s t u : State} {p : Option Picture}
    (h : LayoutStarted m s t) (hr : u.monitorRun m = { t.monitorRun m with picture := p })
    (stays : ∀ e, hasEvent t.mgmt.latch e = true → hasEvent u.mgmt.latch e = true) :
    LayoutStarted m s u where
  ok := by rw [hr]; exact h.ok
  preset := by rw [hr]; exact h.preset
  blank := by rw [hr]; exact h.blank
  geometry l hl hg := stays _ (h.geometry l hl hg)
  mix l hl hx := stays _ (h.mix l hl hx)

/-- Nor does it matter what came before. -/
theorem LayoutStarted.earlier {m : Monitor} {s t u : State} (h : Booting s t)
    (k : LayoutStarted m t u) : LayoutStarted m s u := by
  have tables : t.tables = s.tables := by rw [h]
  have policy : t.mgmt.policy = s.mgmt.policy := by rw [h]
  have ok := h.layoutOk m
  obtain ⟨hok, preset, blank, geometry, mix⟩ := k
  simp only [tables, policy, ok] at hok preset blank geometry mix
  exact ⟨hok, preset, blank, geometry, mix⟩

theorem layoutsStarted {s : State} (hd : AllDetached s) {ms : List Monitor} (hms : ms.Nodup) :
    (∀ m ∈ ms, LayoutStarted m s (ms.foldl powerOnLayout s)) ∧
      LayoutStep ms s (ms.foldl powerOnLayout s) := by
  induction ms generalizing s with
  | nil => exact ⟨by simp, .refl s, fun _ _ => rfl, fun _ => ⟨_, _, rfl⟩, fun _ => id, fun _ => .inl⟩
  | cons m ms ih =>
    obtain ⟨hnew, hms⟩ := List.nodup_cons.1 hms
    obtain ⟨started, step⟩ := layoutStarted_powerOnLayout hd m
    obtain ⟨rest, steps⟩ := ih (step.booting.allDetached hd) hms
    refine ⟨fun k hk => ?_, step.trans steps⟩
    rcases List.mem_cons.1 hk with rfl | hk
    · exact started.later (p := ((powerOnLayout s k).monitorRun k).picture)
        (steps.other k hnew) steps.stays
    · exact (rest k hk).earlier step.booting

/-- What the first frame starts leave (R106, R122): the pictures of the live monitors among some. -/
structure FramesStarted (ms : List Monitor) (s t : State) : Prop where
  booting : Booting s t
  latch : t.mgmt.latch = s.mgmt.latch
  runs : ∀ k, ∃ p, t.monitorRun k = { s.monitorRun k with picture := p } ∧
    (p.isSome = true ↔ k ∈ ms ∧ s.live k = true ∨ (s.monitorRun k).picture.isSome = true)

theorem FramesStarted.live {ms : List Monitor} {s t : State} (h : FramesStarted ms s t)
    (k : Monitor) : t.live k = s.live k := by
  obtain ⟨p, hp, -⟩ := h.runs k
  have tables : t.tables = s.tables := by rw [h.booting]
  simp only [State.live, tables, hp]

theorem frameStarted_powerOnFrame (s : State) (m : Monitor) :
    FramesStarted [m] s (powerOnFrame s m) := by
  unfold powerOnFrame
  split
  · rename_i hlive
    refine ⟨rfl, rfl, fun k => ?_⟩
    have run := State.monitorRun_setMonitorRun s m k
      { s.monitorRun m with picture := some (s.pictureOf m) }
    by_cases hk : m = k
    · subst hk
      exact ⟨_, run.trans (if_pos rfl), by simp [hlive]⟩
    · exact ⟨(s.monitorRun k).picture, run.trans (if_neg hk), by simp [Ne.symm hk]⟩
  · rename_i hlive
    refine ⟨.refl s, rfl, fun k => ⟨(s.monitorRun k).picture, rfl, ?_⟩⟩
    by_cases hk : k = m
    · subst hk; simp [hlive]
    · simp [hk]

theorem framesStarted (ms : List Monitor) (s : State) :
    FramesStarted ms s (ms.foldl powerOnFrame s) := by
  induction ms generalizing s with
  | nil => exact ⟨.refl s, rfl, fun k => ⟨(s.monitorRun k).picture, rfl, by simp⟩⟩
  | cons m ms ih =>
    have first := frameStarted_powerOnFrame s m
    have rest := ih (powerOnFrame s m)
    refine ⟨first.booting.trans rest.booting, rest.latch.trans first.latch, fun k => ?_⟩
    obtain ⟨p, hp, hsome⟩ := first.runs k
    obtain ⟨q, hq, hqsome⟩ := rest.runs k
    refine ⟨q, by rw [List.foldl_cons, hq, hp], ?_⟩
    rw [hqsome, first.live, hp]
    simp only [hsome, List.mem_cons, List.not_mem_nil, or_false]
    tauto

/-! ## The whole -/

/-- The state of a power-on before its desk notice (R21, R122). -/
def State.booted (detect : Vector Bool 6) (s : State) : State :=
  let a := loadTables s.storeAtPowerOn
  allMonitors.foldl powerOnFrame
    (allMonitors.foldl powerOnLayout (latchStart a.failed (powerOnBase detect a s)))

theorem allDetached_powerOnBase (detect : Vector Bool 6) (a : Loaded) (s : State) :
    AllDetached (powerOnBase detect a s) := fun c => by rw [link_powerOnBase]; rfl

/-- The events that a power-on starts with (R181). -/
def startEvents (failed : Bool) : EventSet :=
  if failed then addEvent (addEvent 0 .deskStart) .storeFault else addEvent 0 .deskStart

theorem hasEvent_startEvents (failed : Bool) (e : Event) :
    hasEvent (startEvents failed) e = (Event.deskStart == e || (failed && Event.storeFault == e)) := by
  have none : hasEvent 0#24 e = false := by simp [hasEvent]
  unfold startEvents
  cases failed <;> simp [hasEvent_addEvent, none]

/-- The events of the start (R181). -/
theorem latchStart_powerOnBase (detect : Vector Bool 6) (a : Loaded) (s : State) :
    latchStart a.failed (powerOnBase detect a s) = (powerOnBase detect a s).setMgmt
      { Mgmt.reset a.signatures with
        latch := startEvents a.failed } := by
  have hd := allDetached_powerOnBase detect a s
  have hd1 : AllDetached ((powerOnBase detect a s).setMgmt { (powerOnBase detect a s).mgmt with
    latch := addEvent (powerOnBase detect a s).mgmt.latch .deskStart }) := hd
  unfold latchStart startEvents
  dsimp only
  rw [hd.latch, hd1.latch]
  split
  · rfl
  · rfl

/-- What a power-on has made of the monitors and of the latch, and of nothing else, before its desk notice. -/
structure BootedFrom (detect : Vector Bool 6) (b t : State) : Prop where
  booting : Booting b t
  connected : ∀ m, (t.monitorRun m).connected = nth detect m ∧ (t.monitorRun m).waiting = none
  layouts : ∀ m, LayoutStarted m b t
  pictures : ∀ m, (t.monitorRun m).picture.isSome = t.live m
  start : hasEvent t.mgmt.latch .deskStart = true
  only : ∀ e, hasEvent t.mgmt.latch e = true →
    e = .deskStart ∨ e = .storeFault ∨ e = .layoutRefused ∨ e = .mixRefused

theorem mem_allMonitors (m : Monitor) : m ∈ allMonitors := by
  revert m
  decide

theorem run_powerOnBase (detect : Vector Bool 6) (a : Loaded) (s : State) (m : Monitor) :
    (powerOnBase detect a s).monitorRun m =
      { connected := nth detect m, active := blankLayout (nth a.tables.monitors m),
        activeOrigin := .blankDefault, waiting := none, picture := none } := by
  simp [State.monitorRun, powerOnBase, nth]

theorem bootedFrom (detect : Vector Bool 6) (s : State) :
    BootedFrom detect (powerOnBase detect (loadTables s.storeAtPowerOn) s) (s.booted detect) := by
  unfold State.booted
  dsimp only
  generalize loadTables s.storeAtPowerOn = a
  have hlatch := latchStart_powerOnBase detect a s
  have hstart : Booting (powerOnBase detect a s) (latchStart a.failed (powerOnBase detect a s)) := by
    rw [hlatch]
    rfl
  have hrun : ∀ m, (latchStart a.failed (powerOnBase detect a s)).monitorRun m =
      { connected := nth detect m, active := blankLayout (nth a.tables.monitors m),
        activeOrigin := .blankDefault, waiting := none, picture := none } := fun m => by
    rw [hlatch]
    exact run_powerOnBase detect a s m
  have hd : AllDetached (latchStart a.failed (powerOnBase detect a s)) :=
    hstart.allDetached (allDetached_powerOnBase detect a s)
  have first : ∀ e, hasEvent (latchStart a.failed (powerOnBase detect a s)).mgmt.latch e = true →
      e = .deskStart ∨ e = .storeFault := fun e he => by
    rw [hlatch, State.setMgmt_mgmt, hasEvent_startEvents] at he
    grind
  have began : hasEvent (latchStart a.failed (powerOnBase detect a s)).mgmt.latch .deskStart = true := by
    rw [hlatch, State.setMgmt_mgmt, hasEvent_startEvents]
    rfl
  generalize latchStart a.failed (powerOnBase detect a s) = u at *
  obtain ⟨started, steps⟩ := layoutsStarted hd (ms := allMonitors) (by decide)
  have frames := framesStarted allMonitors (allMonitors.foldl powerOnLayout u)
  generalize allMonitors.foldl powerOnLayout u = v at *
  generalize allMonitors.foldl powerOnFrame v = t at *
  have stays : ∀ e, hasEvent v.mgmt.latch e = true → hasEvent t.mgmt.latch e = true := by
    rw [frames.latch]
    exact fun _ => id
  refine ⟨hstart.trans (steps.booting.trans frames.booting), fun m => ?_, fun m => ?_, fun m => ?_,
    stays _ (steps.stays _ began), fun e he => ?_⟩
  · obtain ⟨p, hp, -⟩ := frames.runs m
    obtain ⟨l, o, hv⟩ := steps.runs m
    rw [hp, hv, hrun]
    exact ⟨rfl, rfl⟩
  · obtain ⟨p, hp, -⟩ := frames.runs m
    exact ((started m (mem_allMonitors m)).later hp stays).earlier hstart
  · obtain ⟨p, hp, hsome⟩ := frames.runs m
    obtain ⟨l, o, hv⟩ := steps.runs m
    rw [frames.live, hp, Bool.eq_iff_iff, hsome, hv, hrun]
    simp [mem_allMonitors]
  · rw [frames.latch] at he
    rcases steps.only e he with he | he
    · exact (first e he).elim .inl fun h => .inr (.inl h)
    · exact .inr (.inr he)

/-- A state of a power-on, with what its monitors and its latch came to. -/
def bootState (detect : Vector Bool 6) (a : Loaded) (s : State) (runs : Vector MonitorRun 6)
    (es : EventSet) : State :=
  { powerOnBase detect a s with
    display := { heads := Vector.replicate 16 none, monitors := runs }
    mgmt := { Mgmt.reset a.signatures with latch := es } }

/-- A state with the desk pointer where a power-on puts it (R142, R143). -/
def State.homed (s : State) : State :=
  s.setPointer { s.homePointer with
    channel := if s.captive then none else (s.setPointer s.homePointer).ownerOfPointer }

/-- A power-on: what its monitors came to, and the desk pointer in its place. -/
theorem powerOn_form (detect : Vector Bool 6) (s : State) : ∃ a runs es,
    BootedFrom detect (powerOnBase detect a s) (bootState detect a s runs es) ∧
      powerOn detect s = (bootState detect a s runs es).homed := by
  have h := bootedFrom detect s
  have e : powerOn detect s = deskNotice (s.booted detect) := by
    unfold powerOn State.booted
    rfl
  generalize loadTables s.storeAtPowerOn = a at h
  have hu : s.booted detect = bootState detect a s (s.booted detect).display.monitors
    (s.booted detect).mgmt.latch := h.booting
  rw [e]
  generalize s.booted detect = u at h hu ⊢
  refine ⟨a, u.display.monitors, u.mgmt.latch, hu ▸ h, ?_⟩
  rw [← hu]
  exact deskNotice_powerOn (h.booting.allDetached (allDetached_powerOnBase detect a s))
    (by rw [hu]; rfl) (by rw [hu]; rfl)

/-- The records of the Pointer Engine that the desk pointer's place leaves alone (R147). -/
theorem homePointer_records (s : State) :
    (∀ b, nth s.homePointer.buttons b = none) ∧
      (∀ c, nth s.homePointer.held c = noButtons) ∧
      (∀ c, nth s.homePointer.lastAbs c = none) ∧ s.homePointer.fx = 0 ∧ s.homePointer.fy = 0 := by
  rw [homePointer_eq]
  exact ⟨fun b => nth_replicate _ _, fun c => nth_replicate _ _, fun c => nth_replicate _ _, rfl, rfl⟩

/-- Settles O4. -/
theorem powerOnState : Obligations.PowerOnState := by
  refine ⟨fun detect s => ⟨_, rfl, ?_⟩, fun detect s m => ⟨_, rfl, ?_⟩⟩
  · obtain ⟨a, runs, es, booted, e⟩ := powerOn_form detect s
    rw [e]
    obtain ⟨buttons, held, lastAbs, fx, fy⟩ := homePointer_records (bootState detect a s runs es)
    refine ⟨fun c => nth_replicate _ _, fun p => ?_, rfl, rfl, fun c => nth_replicate _ _, rfl, rfl,
      rfl, rfl, rfl, rfl, rfl, rfl, buttons, held, lastAbs, fx, fy, fun hl => ?_, fun k rest hl => ?_,
      rfl, fun h => nth_replicate _ _, fun m => ?_, fun T => nth_replicate _ _, rfl, rfl, rfl,
      fun c => nth_replicate _ _, rfl, booted.start, booted.only, rfl, rfl⟩
    · cases p <;> rfl
    · have home := homePointer_none (s := bootState detect a s runs es) hl
      exact ⟨congrArg Pointer.parked home, congrArg Pointer.x home, congrArg Pointer.y home⟩
    · have home := homePointer_some (s := bootState detect a s runs es) hl
      exact ⟨congrArg Pointer.parked home, congrArg Pointer.x home, congrArg Pointer.y home⟩
    · obtain ⟨connected, waiting⟩ := booted.connected m
      exact ⟨connected, waiting, (booted.layouts m).ok⟩
  · obtain ⟨a, runs, es, booted, e⟩ := powerOn_form detect s
    rw [e]
    obtain ⟨-, preset, blank, geometry, mix⟩ := booted.layouts m
    refine ⟨preset, fun h => blank fun l hl => ?_, fun l hl => ⟨geometry l hl, mix l hl⟩,
      booted.pictures m⟩
    rcases h with h | ⟨k, hk, hok⟩
    · exact nomatch h.symm.trans hl
    · exact Option.some.inj (hk.symm.trans hl) ▸ hok

end Sys2Proof.Machine
end

section
/-! The codes of keyboards, keymaps, macros and the player (R25, R31, R39, R85), and the changes that keep them: none puts a
code on a channel that the player serves, for such a channel is not deliverable (R12). -/

namespace Sys2Proof.Machine

/-! ## Codes (R25, R31, R85) -/

/-- A translation that a keymap may make (R31): to a key code, a modifier exactly where the console code is one. -/
def Translates (k t : Code) : Prop := isKeyCode t = true ∧ isModifier t = isModifier k

/-- The codes that a report of one keyboard port brings (R25, R26). -/
def reportFits (ks : List Code) : Prop :=
  (ks.filter fun k => !isModifier k).length ≤ 6 ∧ ∀ k ∈ ks, isKeyCode k = true

theorem reportFits_nil : reportFits [] := ⟨by simp, by simp⟩

/-- Keymaps and macros hold key codes (R31, R85). -/
structure TablesCoded (T : Tables) : Prop where
  keymaps : ∀ i, ∀ a ∈ nth T.keymaps i, ∀ t, a.2 = some t → Translates a.1 t
  macros : ∀ m, ∀ st ∈ (nth T.macros m).steps, st.InRange

/-- The kinds of code that the sizes of pressed sets rest on, the withheld attention key's among them. -/
structure Coded (s : State) : Prop where
  ports : ∀ p, reportFits (s.keyPort p).last
  entries : ∀ e ∈ s.router.entries, isKeyCode e.code = true ∧
    ∀ c t st, e.target = .channel c (some t) st → Translates e.code t
  tap : ∀ k p, s.attention = .tapDown k p → isKeyCode k = true
  tables : TablesCoded s.tables
  player : ∀ pl, s.player = some pl →
    (∀ st ∈ pl.copy.steps, st.InRange) ∧ ∀ k ∈ pl.pressed, isKeyCode k = true

theorem TablesCoded.translateBy {T : Tables} (h : TablesCoded T) {i : Fin 4} {k t : Code}
    (hk : isKeyCode k = true) (ht : translateBy (nth T.keymaps i) k = some t) :
    Translates k t := by
  unfold Machine.translateBy at ht
  split at ht
  · cases ht
    exact ⟨hk, rfl⟩
  · rename_i a hfind
    have hfrom : a.1 = k := by simpa using List.find?_some hfind
    exact hfrom ▸ h.keymaps i a (List.mem_of_find?_eq_some hfind) t ht

theorem Coded.translate {s : State} (h : Coded s) {c : Chan} {k t : Code}
    (hk : isKeyCode k = true) (ht : s.translate c k = some t) : Translates k t := by
  unfold State.translate at ht
  split at ht
  · cases ht
    exact ⟨hk, rfl⟩
  · exact h.tables.translateBy hk ht

/-! ## Changes that keep the codes -/

/-- A DELIVERED entry keeps code k down on channel c (R28). -/
def State.keyHolds (s : State) (c : Chan) (k : Code) : Prop :=
  ∃ e ∈ s.router.entries, e.target = .channel c (some k) .delivered

/-- A change that keeps the kinds of code, and after which a player that holds codes is the one that held them before, with
no more codes of its own and no more DELIVERED ones on its channel. -/
structure Carries (s t : State) : Prop where
  coded : Coded s → Coded t
  served : ∀ pl, t.player = some pl → pl.pressed = [] ∨ ∃ old, s.player = some old ∧
    old.chan = pl.chan ∧ pl.pressed ⊆ old.pressed ∧
    ∀ k, t.keyHolds pl.chan k → s.keyHolds pl.chan k

/-- A change outside the codes. -/
def Aside (s t : State) : Prop :=
  t.console.key = s.console.key ∧ t.console.aux = s.console.aux ∧ t.tables = s.tables ∧
    t.router.entries = s.router.entries ∧ t.player = s.player ∧ t.attention = s.attention

/-- A target that an entry of code k may get in state `s`. -/
def State.allows (s : State) (k : Code) (x : KeyTarget) : Prop :=
  ∀ c t st, x = .channel c (some t) st →
    (Coded s → isKeyCode k = true → Translates k t) ∧ (st = .delivered → s.serves c = false)

theorem State.allows_of_idle {s : State} {k : Code} {x : KeyTarget} (h : Idle (some x)) :
    s.allows k x := fun c t st hx => absurd (congrArg some hx) (h c t st)

theorem State.allows_consumed (s : State) (k : Code) : s.allows k .consumed :=
  allows_of_idle (by simp [Idle])

theorem State.serves_of_deliverable {s : State} {c : Chan} (h : s.deliverable c = true) :
    s.serves c = false := by
  simp only [State.deliverable, Bool.and_eq_true, Bool.not_eq_true'] at h
  exact h.1.2

theorem State.serves_of_player {s : State} {pl : Player} (h : s.player = some pl) :
    s.serves pl.chan = true := by simp [State.serves, h]

theorem State.not_serves_of_eq {s t : State} {c : Chan} (h : t.player = s.player)
    (hs : s.serves c = false) : t.serves c = false := by simpa [State.serves, h] using hs

namespace Carries

variable {s t u : State} {p : Port} {k : Code}

theorem refl (s : State) : Carries s s :=
  ⟨id, fun pl h => .inr ⟨pl, h, rfl, fun _ => id, fun _ => id⟩⟩

theorem trans (h : Carries s t) (j : Carries t u) : Carries s u := by
  refine ⟨fun hs => j.coded (h.coded hs), fun pl hpl => ?_⟩
  rcases j.served pl hpl with hnil | ⟨mid, hmid, hchan, hsub, hheld⟩
  · exact .inl hnil
  · rcases h.served mid hmid with hnil | ⟨old, hold, hchan', hsub', hheld'⟩
    · exact .inl (List.eq_nil_of_subset_nil (hnil ▸ hsub))
    · exact .inr ⟨old, hold, hchan'.trans hchan, fun _ hk => hsub' (hsub hk),
        fun k hk => hchan ▸ hheld' k (hchan ▸ hheld k hk)⟩

theorem foldl {α : Type} {f : State → α → State} (h : ∀ s a, Carries s (f s a)) (l : List α)
    (s : State) : Carries s (l.foldl f s) := by
  induction l generalizing s with
  | nil => exact refl s
  | cons a l ih => exact (h s a).trans (ih _)

/-- A change of the key-down table and of the attention machine: entries stand, or are new with targets they may have. -/
theorem of_entries (key : t.console.key = s.console.key) (aux : t.console.aux = s.console.aux)
    (tables : t.tables = s.tables) (player : t.player = s.player)
    (tap : ∀ k p, t.attention = .tapDown k p →
      s.attention = .tapDown k p ∨ (Coded s → isKeyCode k = true))
    (entries : ∀ e ∈ t.router.entries, e ∈ s.router.entries ∨
      (Coded s → isKeyCode e.code = true) ∧ s.allows e.code e.target) : Carries s t where
  coded h :=
    { ports := fun p => by
        have hp := h.ports p
        cases p <;> simpa [State.keyPort, key, aux] using hp
      entries := fun e he => by
        rcases entries e he with he | ⟨hk, hx⟩
        · exact h.entries e he
        · exact ⟨hk h, fun c t st ht => (hx c t st ht).1 h (hk h)⟩
      tap := fun k p hk => (tap k p hk).elim (h.tap k p) fun hc => hc h
      tables := tables ▸ h.tables
      player := player ▸ h.player }
  served pl hpl := by
    rw [player] at hpl
    refine .inr ⟨pl, hpl, rfl, fun _ => id, fun k ⟨e, he, hx⟩ => ?_⟩
    rcases entries e he with he | ⟨-, ha⟩
    · exact ⟨e, he, hx⟩
    · exact absurd ((ha _ _ _ hx).2 rfl) (by simp [State.serves_of_player hpl])

theorem aside (h : Aside s t) : Carries s t := by
  obtain ⟨key, aux, tables, entries, player, attention⟩ := h
  exact of_entries key aux tables player (fun _ _ hk => .inl (attention ▸ hk))
    fun e he => .inl (entries ▸ he)

/-- An entry's target changed. -/
theorem targetKey (s : State) {x : KeyTarget} (h : s.allows k x) :
    Carries s (s.targetKey p k x) := by
  refine of_entries rfl rfl rfl rfl (fun _ _ => .inl) fun e he => ?_
  obtain ⟨a, ha, rfl⟩ := List.mem_map.1 he
  split
  · rename_i hat
    obtain rfl : a.code = k := by simpa using (Bool.and_eq_true_iff.1 hat).2
    exact .inr ⟨fun hs => (hs.entries a ha).1, h⟩
  · exact .inl ha

/-- An entry put in place, beside a change outside the codes. -/
theorem putKey {x : KeyTarget} (hu : Aside s u) (hk : Coded s → isKeyCode k = true)
    (h : s.allows k x) : Carries s (u.putKey p k x) := by
  obtain ⟨key, aux, tables, entries, player, attention⟩ := hu
  refine of_entries key aux tables player (fun _ _ ha => .inl (attention ▸ ha)) fun e he => ?_
  rcases List.mem_cons.1 ((insertEntry_perm ⟨p, k, x⟩ _).mem_iff.1 he) with rfl | he
  · exact .inr ⟨hk, h⟩
  · exact .inl (entries ▸ (mem_dropEntry.1 he).1)

theorem dropKey (p : Port) (k : Code) (s : State) : Carries s (s.dropKey p k) :=
  of_entries rfl rfl rfl rfl (fun _ _ => .inl) fun _ he => .inl (mem_dropEntry.1 he).1

/-- The attention machine leaves TAP_DOWN, stays out of it, or enters it with a key code. -/
theorem setAttention {a : Attention}
    (h : ∀ k p, a = .tapDown k p → Coded s → isKeyCode k = true) :
    Carries s (setAttention a s) :=
  of_entries rfl rfl rfl rfl (fun k p hk => .inr (h k p hk)) fun _ => .inl

theorem calm (s : State) : Carries s (Machine.setAttention .idle s) :=
  setAttention fun _ _ h => nomatch h

/-- The player's record changed without its channel and its copy, and with no more codes. -/
theorem setPlayer {old new : Player} (hp : s.player = some old) (hchan : old.chan = new.chan)
    (hcopy : new.copy = old.copy) (hsub : new.pressed ⊆ old.pressed) :
    Carries s (setPlayer (some new) s) where
  coded h :=
    { h with
      ports := h.ports
      player := fun pl hpl => by
        obtain rfl : new = pl := Option.some.inj hpl
        obtain ⟨hsteps, hcodes⟩ := h.player old hp
        exact ⟨hcopy ▸ hsteps, fun k hk => hcodes k (hsub hk)⟩ }
  served pl hpl := by
    obtain rfl : new = pl := Option.some.inj hpl
    exact .inr ⟨old, hp, hchan, hsub, fun _ => id⟩

/-- The player ends. -/
theorem clearPlayer (s : State) : Carries s (Machine.setPlayer none s) where
  coded h := { h with ports := h.ports, player := fun _ hpl => nomatch hpl }
  served _ hpl := nomatch hpl

/-- The player begins, holding nothing (R88). -/
theorem beginMacro {r : State} (ht : r.tables = s.tables) (m : Fin 8) (c : Chan) (b : Bool) :
    Carries s (beginMacro (r.freshPlayer m c b) s) where
  coded h :=
    { h with
      ports := h.ports
      player := fun pl hpl => by
        obtain rfl : r.freshPlayer m c b = pl := Option.some.inj hpl
        exact ⟨fun st hst => h.tables.macros m st (ht ▸ hst), by simp [State.freshPlayer]⟩ }
  served pl hpl := .inl (by
    obtain rfl : r.freshPlayer m c b = pl := Option.some.inj hpl
    rfl)

/-- Tables written with key codes. -/
theorem withTables {T : Tables} (h : TablesCoded s.tables → TablesCoded T) :
    Carries s (s.withTables T) where
  coded hs := { hs with ports := hs.ports, tables := h hs.tables }
  served pl hpl := .inr ⟨pl, hpl, rfl, fun _ => id, fun _ => id⟩

end Carries

/-! ## Keys (R33 to R37) -/

@[simp] theorem entries_pressCode (c : Chan) (k : Code) (s : State) :
    (pressCode c k s).router.entries = s.router.entries :=
  congrArg KeyView.entries (view_pressCode s c k)

@[simp] theorem entries_releaseCode (c : Chan) (k : Code) (s : State) :
    (releaseCode c k s).router.entries = s.router.entries :=
  congrArg KeyView.entries (view_releaseCode s c k)

/-- Only a deliverable channel is delivered to (R12). -/
theorem deliverable_of_offerDown {c : Chan} {i : HoldItem} {s : State}
    (h : (offerDown c i s).1 = .deliver) : s.deliverable c = true := by
  have queue : ∀ u, (queueDown c i u).1 ≠ .deliver := fun u => by
    unfold queueDown
    dsimp only
    split <;> simp
  unfold offerDown at h
  repeat' split at h
  · cases h
  · exact absurd h (queue s)
  · cases h
  · cases h
  · exact absurd h (queue s)
  · assumption
  · exact absurd h (queue s)

namespace Carries

theorem pressCode (c : Chan) (t : Code) (s : State) : Carries s (pressCode c t s) :=
  aside (by simp [Aside])

theorem releaseCode (c : Chan) (t : Code) (s : State) : Carries s (releaseCode c t s) :=
  aside (by simp [Aside])

theorem retargetKey (n : Chan) (p : Port) (k : Code) (s : State) :
    Carries s (retargetKey n p k s) := by
  unfold Machine.retargetKey
  split
  · exact targetKey s (s.allows_of_idle (by simp [Idle]))
  · rename_i t ht
    have allowed : ∀ {u : State} {st}, u.tables = s.tables → (st = .delivered → u.serves n = false) →
        u.allows k (.channel n (some t) st) := fun htab hst c j st' hx => by
      cases hx
      refine ⟨fun hu hk => hu.translate (c := n) hk ?_, hst⟩
      simpa [State.translate, State.chanRec, htab] using ht
    split
    · rename_i hd
      exact (targetKey s (allowed rfl fun _ => s.serves_of_deliverable hd)).trans (pressCode n t _)
    · have placed : Carries s (placeDown n (.modHandover p k t true) s).2 :=
        aside (by simp [Aside])
      dsimp only
      split
      · exact placed.trans (targetKey _ (allowed (by simp) fun h => nomatch h))
      · exact placed.trans (targetKey _ (State.allows_consumed _ k))

theorem removeContribution (c : Chan) (p : Port) (k t : Code) (s : State) :
    Carries s (removeContribution c p k t s) := aside (by simp [Aside])

/-- A target that does nothing. -/
theorem idleTarget (p : Port) (k : Code) {x : KeyTarget} (hx : Idle (some x)) (s : State) :
    Carries s (s.targetKey p k x) := targetKey s (State.allows_of_idle hx)

theorem consume (p : Port) (k : Code) (s : State) : Carries s (s.targetKey p k .consumed) :=
  targetKey s (s.allows_consumed k)

theorem consumeQueued (c : Chan) (p : Port) (k t : Code) (s : State) :
    Carries s (consumeQueued .settlement c p k t s) :=
  (consume p k s).trans (aside (by simp [Aside, Machine.consumeQueued, Machine.forgetKey]))

theorem settleModifier (handover : Bool) (o n : Chan) (s : State) (pk : Port × Code) :
    Carries s (settleModifier handover o n s pk) := by
  unfold Machine.settleModifier
  repeat' split
  · exact (removeContribution _ _ _ _ s).trans (retargetKey n _ _ _)
  · exact (removeContribution _ _ _ _ s).trans (consume _ _ _)
  · exact retargetKey n _ _ s
  · exact consume _ _ s
  · exact consumeQueued _ _ _ _ s
  · exact consume _ _ s
  · exact refl s
  · exact refl s

theorem tapReleased (s : State) : Carries s (tapReleased s) := by
  unfold Machine.tapReleased
  split
  · exact setAttention fun _ _ h => nomatch h
  · exact refl s

theorem keyUp (p : Port) (k : Code) (s : State) : Carries s (keyUp p k s) := by
  unfold Machine.keyUp
  repeat' split
  · exact refl s
  · exact (dropKey p k s).trans (tapReleased _)
  · exact dropKey p k s
  · exact dropKey p k s
  · exact trans (aside (by simp [Aside, forgetKey])) (dropKey p k _)
  · exact (removeContribution _ p k _ s).trans (dropKey p k _)

theorem deliverTap (c : Chan) (p : Port) (k : Code) (s : State) :
    Carries s (deliverTap c p k s) := by
  unfold Machine.deliverTap
  split
  · exact refl s
  · rename_i t _
    have offered : Carries s (offerDown c (.keyDown p k t false) s).2 := aside (by simp [Aside])
    split <;> rename_i h <;> rw [h] at offered
    · exact offered.trans ((pressCode c t _).trans (releaseCode c t _))
    · exact offered.trans (aside (by simp [Aside]))
    · exact offered
    · exact offered

theorem lateTap (p : Port) (k : Code) (s : State) : Carries s (lateTap p k s) := by
  unfold Machine.lateTap
  split
  · exact refl s
  · exact deliverTap _ p k s

/-- A key routed (R33): delivered only to a deliverable channel. -/
theorem routeKey (p : Port) {k : Code} {s : State} (hk : Coded s → isKeyCode k = true) :
    Carries s (routeKey p k s) := by
  have target : Aside s (routeTarget p k s).2 ∧ s.allows k (routeTarget p k s).1 := by
    have same : Aside s s := ⟨rfl, rfl, rfl, rfl, rfl, rfl⟩
    have consumed : s.allows k .consumed := s.allows_consumed k
    unfold routeTarget
    split
    · exact ⟨same, consumed⟩
    · rename_i c _
      split
      · split
        · exact ⟨same, consumed⟩
        · exact ⟨same, s.allows_of_idle (by simp [Idle])⟩
      · rename_i t ht
        have allowed : ∀ st, (st = .delivered → s.serves c = false) →
            s.allows k (.channel c (some t) st) := fun st hst c' j st' hx => by
          cases hx
          exact ⟨fun hs hk => hs.translate hk ht, hst⟩
        have offered : Aside s (offerDown c (.keyDown p k t true) s).2 := by simp [Aside]
        have served : (offerDown c (.keyDown p k t true) s).1 = .deliver →
            s.serves c = false := fun h => State.serves_of_deliverable (deliverable_of_offerDown h)
        split <;> rename_i h <;> rw [h] at offered served
        · exact ⟨by simpa [Aside] using offered, allowed _ fun _ => served rfl⟩
        · exact ⟨offered, allowed _ fun h => nomatch h⟩
        · exact ⟨offered, consumed⟩
        · exact ⟨offered, consumed⟩
  exact putKey target.1 hk target.2

end Carries

end Sys2Proof.Machine
end

section
/-! Drains, losses of a link, the Macro Player, focus changes, frames and actions keep the kinds of code (chapters 01, 04 to
08, R57 to R65). -/

namespace Sys2Proof.Machine

namespace Carries

/-! ## What lies outside the codes -/

theorem offer (c : Chan) (i : Interface) (b : List Byte) (s : State) : Carries s (offer c i b s) :=
  aside (by simp [Aside])

theorem latch (e : Event) (s : State) : Carries s (latch e s) := aside (by simp [Aside])

theorem setFocus (f : Focus) (s : State) : Carries s (s.setFocus f) := aside (by simp [Aside])

theorem setMgmt (m : Mgmt) (s : State) : Carries s (s.setMgmt m) := aside (by simp [Aside])

theorem setPointer (p : Pointer) (s : State) : Carries s (s.setPointer p) :=
  aside (by simp [Aside])

theorem setLink (c : Chan) (l : Link) (s : State) : Carries s (s.setLink c l) :=
  aside (by simp [Aside])

theorem setMonitorRun (m : Monitor) (r : MonitorRun) (s : State) :
    Carries s (s.setMonitorRun m r) := aside (by simp [Aside])

theorem requestCue (q : Cue) (s : State) : Carries s (requestCue q s) := setFocus _ s

theorem cancelDwell (s : State) : Carries s (cancelDwell s) := setFocus _ s

theorem wakeRequest (c : Chan) (s : State) : Carries s (wakeRequest c s).2 :=
  aside (by simp [Aside])

theorem driveConsoleLeds (s : State) : Carries s (driveConsoleLeds s) := aside (by simp [Aside])

theorem deferredOutcome (a : Awaits) (c : Chan) (r : Reply) (s : State) :
    Carries s (deferredOutcome a c r s) := aside (by simp [Aside])

theorem respond (c : Chan) (tag : Byte) (adjusted : Bool) (r : Reply) (s : State) :
    Carries s (respond c tag adjusted r s) := aside (by simp [Aside])

/-! ## Drain, discard and loss (R10, R17, R18) -/

/-- A drained press makes its entry DELIVERED on the channel drained (R17). -/
theorem markKey {c : Chan} {s : State} (h : s.serves c = false) (p : Port) (k : Code) :
    Carries s (markKey c p k s) := by
  unfold Machine.markKey
  split
  · rename_i q j d t hfind
    split
    · rename_i hd
      obtain ⟨hmem, he⟩ := findEntry_eq_some hfind
      refine targetKey s fun e u st hx => ?_
      obtain ⟨rfl, rfl, rfl⟩ := KeyTarget.channel.inj hx
      cases he
      exact ⟨fun hs _ => (hs.entries _ hmem).2 _ _ _ rfl, fun _ => h⟩
    · exact refl s
  · exact refl s

theorem drainItem {c : Chan} {s : State} (h : s.serves c = false) (i : HoldItem) :
    Carries s (drainItem c s i) := by
  have press : ∀ p k t (named : Bool), Carries s (if named then
      Machine.markKey c p k (Machine.pressCode c t s) else Machine.pressCode c t s) :=
    fun p k t named => by
      have pressed := pressCode c t s
      split
      · exact pressed.trans (markKey (State.not_serves_of_eq (by simp) h) p k)
      · exact pressed
  cases i with
  | keyDown p k t named => exact press p k t named
  | modHandover p k t named => exact press p k t named
  | keyUp p k t settled =>
    cases settled
    · exact releaseCode c t s
    · exact refl s
  | buttonDown b named => cases named <;> exact aside (by simp [Aside, Machine.drainItem])
  | buttonUp b settled => cases settled <;> exact aside (by simp [Aside, Machine.drainItem])

theorem drainItems {c : Chan} {s : State} (h : s.serves c = false) :
    Carries s (drainItems c s) := by
  have items : ∀ (q : List HoldItem) (u : State), u.serves c = false →
      Carries u (q.foldl (Machine.drainItem c) u) := fun q => by
    induction q with
    | nil => exact fun u _ => refl u
    | cons i q ih =>
      exact fun u hu => (drainItem hu i).trans (ih _ (State.not_serves_of_eq (by simp) hu))
  exact (setLink c _ s).trans (items _ _ (State.not_serves_of_eq rfl h))

theorem fullStateReports (c : Chan) (s : State) : Carries s (fullStateReports c s) :=
  aside (by simp [Aside, Machine.fullStateReports])

theorem drain {c : Chan} {s : State} (h : s.serves c = false) : Carries s (drain c s) :=
  (fullStateReports c s).trans
    (drainItems (State.not_serves_of_eq (by simp [Machine.fullStateReports]) h))

theorem discardItem (s : State) (i : HoldItem) : Carries s (discardItem s i) := by
  unfold Machine.discardItem
  split
  · exact consume _ _ s
  · exact consume _ _ s
  · exact aside (by simp [Aside])
  · exact refl s

theorem discardQueue (c : Chan) (s : State) : Carries s (discardQueue c s) :=
  (foldl discardItem _ s).trans (setLink c _ _)

theorem playerLost (c : Chan) (s : State) : Carries s (playerLost c s) := by
  unfold Machine.playerLost
  split
  · exact (clearPlayer s).trans (latch _ _)
  · exact refl s

/-- Entries of the channel become CONSUMED (R10). -/
theorem loseKeys (c : Chan) (s : State) : Carries s (loseKeys c s) := by
  refine of_entries rfl rfl rfl rfl (fun _ _ => .inl) fun e he => ?_
  obtain ⟨a, ha, rfl⟩ := List.mem_map.1 he
  unfold consumeEntryOf
  split
  · exact .inr ⟨fun hs => (hs.entries a ha).1, s.allows_consumed _⟩
  · exact .inl ha

theorem ledsIfFocus (c : Chan) (s : State) : Carries s (ledsIfFocus c s) := by
  unfold Machine.ledsIfFocus
  split
  · exact driveConsoleLeds s
  · exact refl s

theorem alertOnActive (c : Chan) (s : State) : Carries s (alertOnActive c s) :=
  aside (by simp [Aside])

theorem loseCandidate (c : Chan) (s : State) : Carries s (loseCandidate c s) := by
  unfold Machine.loseCandidate
  repeat' split
  · exact refl s
  · exact cancelDwell s
  · exact refl s

theorem loseAlert (c : Chan) (s : State) : Carries s (loseAlert c s) := by
  unfold Machine.loseAlert
  split
  · exact setMgmt _ s
  · exact refl s

theorem loseLink (c : Chan) (s : State) : Carries s (loseLink c s) := by
  unfold Machine.loseLink
  dsimp only
  exact (setLink c .reset s).trans ((latch .linkDown _).trans ((loseKeys c _).trans
    ((setPointer _ _).trans ((playerLost c _).trans ((loseCandidate c _).trans
      ((ledsIfFocus c _).trans ((setMgmt _ _).trans (loseAlert c _))))))))

/-! ## The Macro Player (R88 to R96) -/

theorem endMacro (e : Event) (s : State) : Carries s (endMacro e s) := by
  unfold Machine.endMacro
  split
  · exact refl s
  · rename_i pl _
    have lowered : Carries s (lowerAll pl.chan pl.pressed s) :=
      aside (by simp [Aside, lowerAll_frame])
    dsimp only
    split
    · exact lowered.trans ((offer _ _ _ _).trans ((clearPlayer _).trans ((latch e _).trans
        (drain (by simp [State.serves])))))
    · exact lowered.trans ((clearPlayer _).trans (latch e _))

theorem advance (w i : Nat) (s : State) : Carries s (advance w i s) := by
  unfold Machine.advance
  split
  · exact refl s
  · rename_i pl hp
    split
    · exact endMacro _ s
    · exact setPlayer hp rfl rfl fun _ => id

theorem countSkipped (s : State) : Carries s (countSkipped s) := aside (by simp [Aside])

theorem setTapHalf (h : Option Code) (s : State) : Carries s (setTapHalf h s) := by
  unfold Machine.setTapHalf
  split
  · exact refl s
  · rename_i pl hp
    exact setPlayer hp rfl rfl fun _ => id

theorem playerRelease {pl : Player} (k : Code) {s : State} (hp : s.player = some pl) :
    Carries s (playerRelease pl k s) := by
  unfold Machine.playerRelease
  split
  · exact (setPlayer (new := { pl with pressed := pl.pressed.filter (· != k) }) hp rfl rfl
      (List.filter_subset_self _)).trans (releaseCode _ k _)
  · exact refl s

theorem startMacro (m : Fin 8) (c : Chan) (s : State) : Carries s (startMacro m c s).2 := by
  have woken := wakeRequest c s
  have tables : s.tables = (Machine.wakeRequest c s).2.tables := by simp
  unfold Machine.startMacro
  split
  · exact refl s
  · split
    · exact beginMacro rfl m c true
    · exact latch _ s
    · split <;> rename_i h <;> rw [h] at woken tables
      · exact woken.trans (beginMacro tables m c false)
      · exact woken.trans (latch _ _)
    · exact woken.trans (beginMacro tables m c false)

theorem playerSuspended (c : Chan) (s : State) : Carries s (playerSuspended c s) := by
  unfold Machine.playerSuspended
  split
  · exact refl s
  · rename_i pl hp
    dsimp only
    split
    · have waits : Carries s (Machine.setPlayer (some { pl with playing := false }) s) :=
        setPlayer hp rfl rfl fun _ => id
      split
      · exact waits.trans ((wakeRequest c _).trans (endMacro _ _))
      · exact waits.trans (wakeRequest c _)
    · exact refl s

theorem playerResumed (c : Chan) (s : State) : Carries s (playerResumed c s) := by
  unfold Machine.playerResumed
  split
  · exact refl s
  · rename_i pl hp
    split
    · exact setPlayer hp rfl rfl fun _ => id
    · exact refl s

theorem playerWakeFailed (c : Chan) (s : State) : Carries s (playerWakeFailed c s) := by
  unfold Machine.playerWakeFailed
  split
  · exact endMacro _ s
  · exact refl s

/-! ## Links (R4 to R9) -/

theorem bringUp (c : Chan) (s : State) : Carries s (bringUp c s) :=
  (setLink c _ s).trans ((ledsIfFocus c _).trans ((latch .linkUp _).trans
    (alertOnActive c _)))

theorem resumeLink (c : Chan) (s : State) : Carries s (resumeLink c s) := by
  have up : Carries s (Machine.playerResumed c (Machine.fullStateReports c (wakeUp c s))) :=
    (setLink c _ s).trans ((latch .resumed _).trans ((alertOnActive c _).trans
      ((fullStateReports c _).trans (playerResumed c _))))
  unfold Machine.resumeLink
  dsimp only
  split
  · exact up
  · rename_i h
    exact up.trans (drainItems (by simpa using h))

theorem suspendLink (c : Chan) (s : State) : Carries s (suspendLink c s) :=
  (setLink c _ s).trans ((latch .suspended _).trans (playerSuspended c _))

theorem failWake (c : Chan) (s : State) : Carries s (failWake c s) :=
  (setLink c _ s).trans ((discardQueue c _).trans ((latch .wakeFailed _).trans
    ((requestCue .fail _).trans (playerWakeFailed c _))))

/-! ## Focus changes and glide (R70, R149 to R155) -/

theorem settleFrom (cause : Cause) (o : Option Chan) (n : Chan) (s : State) :
    Carries s (settleFrom cause o n s) := by
  unfold Machine.settleFrom
  split
  · exact refl s
  · exact foldl (settleModifier _ _ n) _ s

theorem wakeOnFocus (n : Chan) (s : State) : Carries s (wakeOnFocus n s).2 := by
  unfold Machine.wakeOnFocus
  split
  · exact wakeRequest n s
  · exact refl s

theorem focusSteps (cause : Cause) (n : Chan) (s : State) : Carries s (focusSteps cause n s) :=
  (setFocus _ s).trans ((settleFrom cause s.focus.channel n _).trans ((cancelDwell _).trans
    ((driveConsoleLeds _).trans ((wakeOnFocus n _).trans ((latch .focusChanged _).trans
      (requestCue _ _))))))

theorem glideRequest (n : Chan) (s : State) : Carries s (glideRequest n s) := by
  unfold Machine.glideRequest
  split
  · exact focusSteps .glide n s
  · exact latch .glideBarrier s
  · exact refl s

theorem completeDwell (s : State) : Carries s (completeDwell s) := by
  unfold Machine.completeDwell
  split
  · exact refl s
  · exact (cancelDwell s).trans (glideRequest _ _)

theorem pointerNotice (new : Option Chan) (s : State) : Carries s (pointerNotice new s) := by
  have h := cancelDwell s
  unfold Machine.pointerNotice startDwell
  dsimp only
  repeat' split
  · exact h
  · exact h
  · exact h.trans ((setFocus _ _).trans (completeDwell _))
  · exact h.trans (setFocus _ _)
  · exact h.trans (latch .glideBarrier _)
  · exact h

theorem pressNotice (c : Chan) (s : State) : Carries s (pressNotice c s) := by
  unfold Machine.pressNotice
  repeat' split
  · exact refl s
  · exact completeDwell s
  · exact refl s

/-! ## The desk pointer (R138 to R144) -/

theorem deliverMotion (entered : Bool) (wheel pan : Int) (s : State) :
    Carries s (deliverMotion entered wheel pan s) := aside (by simp [Aside])

theorem takeOwner (s : State) : Carries s (takeOwner s).2 := by
  unfold Machine.takeOwner
  split
  · exact refl s
  · exact (setPointer _ s).trans (pointerNotice _ _)

theorem ownerAndPosition (s : State) : Carries s (ownerAndPosition s) := by
  unfold Machine.ownerAndPosition
  dsimp only
  split
  · exact takeOwner s
  · exact (takeOwner s).trans (deliverMotion _ _ _ _)

theorem rehomeOrPark (s : State) : Carries s (rehomeOrPark s) := by
  unfold Machine.rehomeOrPark
  repeat' split
  · exact refl s
  · exact setPointer _ s
  · exact setPointer _ s
  · exact refl s
  · exact setPointer _ s

theorem deskNotice (s : State) : Carries s (deskNotice s) := by
  unfold Machine.deskNotice parkedWhileCaptive
  dsimp only
  repeat' split
  · exact (rehomeOrPark s).trans ((setPointer _ _).trans (pointerNotice none _))
  · exact rehomeOrPark s
  · exact (rehomeOrPark s).trans (ownerAndPosition _)

theorem moveAndDeliver (sm : Sample) (s : State) : Carries s (moveAndDeliver sm s) :=
  (setPointer _ s).trans ((takeOwner _).trans (deliverMotion _ _ _ _))

theorem releaseButton (carrier : Option Chan) (s : State) (b : Button) :
    Carries s (releaseButton carrier s b) := by
  unfold Machine.releaseButton
  dsimp only
  repeat' split
  · exact refl s
  all_goals exact aside (by simp [Aside, forgetButton, settleButton])

theorem offerButton (report : Bool) (c : Chan) (b : Button) (s : State) :
    Carries s (offerButton report c b s) := by
  have offered : Aside s (offerDown c (.buttonDown b true) s).2 := by simp [Aside]
  unfold Machine.offerButton
  split <;> rename_i h <;> rw [h] at offered
  · dsimp only
    split <;> exact aside (by simpa [Aside] using offered)
  all_goals exact aside (by simpa [Aside] using offered)

theorem pressAbsolute (c : Option Chan) (s : State) (b : Button) :
    Carries s (pressAbsolute c s b) := by
  unfold Machine.pressAbsolute
  split
  · exact aside (by simp [Aside])
  · exact (pressNotice _ s).trans (offerButton true _ b _)

theorem takeSample (sm : Sample) (s : State) : Carries s (takeSample sm s) := by
  have releases : ∀ carrier, Carries s (sm.releases.foldl (Machine.releaseButton carrier) s) :=
    fun carrier => foldl (releaseButton carrier) _ s
  have absolute : Carries s (absoluteSample sm s) := by
    unfold absoluteSample
    dsimp only
    refine trans ?_ (foldl (pressAbsolute _) _ _)
    split
    · exact releases none
    · exact (releases none).trans (moveAndDeliver sm _)
  unfold Machine.takeSample
  split
  · exact absolute
  · rename_i f _
    split
    · have presses := (releases (some f)).trans
        (foldl (f := pressCaptive f) (fun s b => offerButton false f b s) sm.presses _)
      unfold captiveSample captiveReport
      dsimp only
      split
      · exact presses.trans (offer _ _ _ _)
      · exact presses
    · exact absolute

/-! ## Layouts and frames (R105, R106, R114 to R118) -/

theorem settleWaiting (m : Monitor) (s : State) : Carries s (settleWaiting m s) := by
  unfold Machine.settleWaiting
  split
  · exact refl s
  · exact aside (by simp [Aside])

theorem placeLayout (m : Monitor) (l : Layout) (o : Origin) (s : State) :
    Carries s (placeLayout m l o s) := by
  unfold Machine.placeLayout
  split <;> exact aside (by simp [Aside])

theorem placePart (n : Fin 16) (p : Preset) (s : State) (m : Monitor) :
    Carries s (placePart n p s m) := by
  unfold Machine.placePart
  split
  · exact refl s
  · exact placeLayout m _ _ s

theorem recallPreset (n : Fin 16) (s : State) : Carries s (recallPreset n s).2 := by
  unfold Machine.recallPreset
  dsimp only
  split
  · exact aside (by simp [Aside])
  · exact foldl (placePart n _) _ s

theorem setLayoutOn (m : Monitor) (l : Layout) (s : State) : Carries s (setLayoutOn m l s).2 := by
  unfold Machine.setLayoutOn
  dsimp only
  split
  · exact placeLayout m l _ s
  · exact aside (by simp [Aside])

theorem beginFrame (m : Monitor) (s : State) : Carries s (beginFrame m s) := by
  have h : Carries s (fixPicture m (Machine.settleWaiting m s)) :=
    (settleWaiting m s).trans (setMonitorRun m _ _)
  unfold Machine.beginFrame
  dsimp only
  split
  · exact h.trans (deskNotice _)
  · exact h

theorem becomeLive (m : Monitor) (s : State) : Carries s (becomeLive m s) :=
  (beginFrame m s).trans (deskNotice _)

theorem ceaseLive (m : Monitor) (s : State) : Carries s (ceaseLive m s) :=
  (settleWaiting m s).trans ((setMonitorRun m _ _).trans (deskNotice _))

theorem changeSignal (h : Head) (d : Option (Nat × Nat)) (s : State) :
    Carries s (changeSignal h d s) := by
  unfold Machine.changeSignal
  dsimp only
  split <;> exact aside (by simp [Aside])

theorem changeSink (m : Monitor) (connected : Bool) (s : State) :
    Carries s (changeSink m connected s) := by
  have h := (setMonitorRun m { s.monitorRun m with connected := connected } s).trans
    (latch .monitorChanged _)
  unfold Machine.changeSink
  dsimp only
  repeat' split
  · exact h.trans (becomeLive m _)
  · exact h.trans (ceaseLive m _)
  · exact h

theorem changeFocus (cause : Cause) (n : Chan) (s : State) : Carries s (changeFocus cause n s) := by
  unfold Machine.changeFocus
  dsimp only
  split
  · exact (focusSteps cause n s).trans (ownerAndPosition _)
  · exact focusSteps cause n s

theorem requestFocus (cause : Cause) (n : Chan) (s : State) :
    Carries s (requestFocus cause n s).2 := by
  unfold Machine.requestFocus
  split
  · exact changeFocus cause n s
  · exact refl s

end Carries

end Sys2Proof.Machine
end

section
/-! What is read of a keymap or of a saved key sequence holds key codes (R31, R85, R167, R172), whether written or loaded. -/

namespace Sys2Proof.Machine

/-! ## Records read (R31, R86) -/

theorem mem_of_allSome {α : Type} {l : List (Option α)} {as : List α} (h : allSome l = some as) :
    ∀ a ∈ as, some a ∈ l := by
  induction l generalizing as with
  | nil =>
    cases h
    simp
  | cons o l ih =>
    cases o with
    | none => cases h
    | some b =>
      obtain ⟨bs, hbs, rfl⟩ := Option.map_eq_some_iff.1 h
      intro a ha
      rcases List.mem_cons.1 ha with rfl | ha
      · exact List.mem_cons_self
      · exact List.mem_cons_of_mem _ (ih hbs a ha)

theorem mem_of_insertPair {p : Code × Option Code} {l m : Keymap} (h : insertPair p l = some m) :
    ∀ a ∈ m, a = p ∨ a ∈ l := by
  induction l generalizing m with
  | nil =>
    cases h
    simp
  | cons q l ih =>
    unfold insertPair at h
    split at h
    · cases h
      simp
    · split at h
      · cases h
      · obtain ⟨n, hn, rfl⟩ := Option.map_eq_some_iff.1 h
        intro a ha
        rcases List.mem_cons.1 ha with rfl | ha
        · exact .inr List.mem_cons_self
        · exact (ih hn a ha).imp_right (List.mem_cons_of_mem _)

theorem mem_of_sortPairs {l m : Keymap} (h : sortPairs l = some m) : ∀ a ∈ m, a ∈ l := by
  induction l generalizing m with
  | nil =>
    cases h
    simp
  | cons p l ih =>
    obtain ⟨n, hn, hm⟩ := Option.bind_eq_some_iff.1 h
    intro a ha
    rcases mem_of_insertPair hm a ha with rfl | ha
    · exact List.mem_cons_self
    · exact List.mem_cons_of_mem _ (ih hn a ha)

theorem translates_of_parsePair {bs : List Byte} {a : Code × Option Code}
    (h : parsePair bs = some a) {t : Code} (ht : a.2 = some t) : Translates a.1 t := by
  unfold parsePair at h
  dsimp only at h
  repeat' split at h
  · cases h
    cases ht
  · rename_i hb
    cases h
    cases ht
    simp only [Bool.and_eq_true, beq_iff_eq] at hb
    exact ⟨hb.1, hb.2.symm⟩
  · cases h
  · cases h

/-- A keymap that is read translates as R31 has it. -/
theorem translates_of_parseKeymap {bs : List Byte} {r : Keymap × Bool}
    (h : parseKeymap bs = some r) : ∀ a ∈ r.1, ∀ t, a.2 = some t → Translates a.1 t := by
  unfold parseKeymap at h
  dsimp only at h
  repeat' split at h
  · cases h
  · rename_i l hl
    obtain ⟨m, hm, rfl⟩ := Option.map_eq_some_iff.1 h
    intro a ha t ht
    obtain ⟨b, -, hb⟩ := List.mem_map.1 (mem_of_allSome hl a (mem_of_sortPairs hm a ha))
    exact translates_of_parsePair hb ht
  · cases h

theorem inRange_of_parseStep {bs : List Byte} {r : MacroStep × Bool}
    (h : parseStep bs = some r) : r.1.InRange := by
  unfold parseStep at h
  dsimp only at h
  repeat' split at h
  all_goals cases h
  iterate 3 assumption
  exact Nat.min_le_right _ _

/-- A key sequence that is read has steps in their ranges (R85, R86). -/
theorem inRange_of_parseMacro {bs : List Byte} {r : MacroRec × Bool}
    (h : parseMacro bs = some r) : ∀ st ∈ r.1.steps, st.InRange := by
  unfold parseMacro at h
  dsimp only at h
  split at h
  · obtain ⟨l, hl, rfl⟩ := Option.map_eq_some_iff.1 h
    intro st hst
    obtain ⟨a, ha, rfl⟩ := List.mem_map.1 hst
    obtain ⟨b, -, hb⟩ := List.mem_map.1 (mem_of_allSome hl a ha)
    exact inRange_of_parseStep hb
  · cases h

/-! ## Tables written and loaded (R167, R172) -/

/-- Records put in place keep a property that each of them has. -/
theorem install_all {α : Type} {n : Nat} {P : α → Prop} {rs : List (Option (α × Bool))}
    (hrs : ∀ r, some r ∈ rs → P r.1) {v : Vector α n} (hv : ∀ i, P (nth v i)) (k : Nat) (i : Fin n) :
    P (nth (install v k rs) i) := by
  induction rs generalizing v k with
  | nil => exact hv i
  | cons o rs ih =>
    have hrest : ∀ r, some r ∈ rs → P r.1 := fun r hr => hrs r (List.mem_cons_of_mem _ hr)
    cases o with
    | none => exact ih hrest hv (k + 1)
    | some r =>
      refine ih hrest (fun j => ?_) (k + 1)
      unfold putAt
      split
      · rw [nth_put]
        split
        · exact hrs r List.mem_cons_self
        · exact hv j
      · exact hv j

theorem TablesCoded.written {T : Tables} (h : TablesCoded T) (t : Table) (pos : Nat)
    (imgs : List (List Byte)) : TablesCoded (writtenTables t pos imgs T).1 := by
  have same : ∀ W : Tables, W.keymaps = T.keymaps → W.macros = T.macros → TablesCoded W :=
    fun W hk hm => ⟨hk ▸ h.keymaps, hm ▸ h.macros⟩
  cases t with
  | keymaps =>
    refine ⟨install_all (P := fun km : Keymap => ∀ a ∈ km, ∀ t, a.2 = some t → Translates a.1 t)
      (fun r hr => ?_) h.keymaps pos, h.macros⟩
    obtain ⟨b, -, hb⟩ := List.mem_map.1 hr
    exact translates_of_parseKeymap hb
  | macros =>
    refine ⟨h.keymaps, install_all (P := fun m : MacroRec => ∀ st ∈ m.steps, st.InRange)
      (fun r hr => ?_) h.macros pos⟩
    obtain ⟨b, -, hb⟩ := List.mem_map.1 hr
    exact inRange_of_parseMacro hb
  | channels => exact same _ rfl rfl
  | authority => exact same _ rfl rfl
  | heads => exact same _ rfl rfl
  | monitors => exact same _ rfl rfl
  | presets => exact same _ rfl rfl
  | hotkeys => exact same _ rfl rfl
  | ballistics => exact same _ rfl rfl
  | desk => exact same _ rfl rfl

/-- A write that passes its check holds key codes. -/
theorem TablesCoded.applied {s : State} (h : TablesCoded s.tables) {t : Table} {f : Frame}
    {T : Tables} {adjusted : Bool} (hw : checkWrite t f s = .applies T adjusted) :
    TablesCoded T := by
  unfold checkWrite at hw
  dsimp only at hw
  repeat' split at hw
  · cases hw
  · cases hw
    exact h.written t _ _
  · cases hw

theorem tablesCoded_factory : TablesCoded factoryTables where
  keymaps i a ha := by simp [factoryTables] at ha
  macros m st hst := by
    obtain rfl : st = .pause 0 := by simpa [factoryTables, factoryMacro] using hst
    exact Nat.zero_le _

theorem TablesCoded.withFactory {T : Tables} (h : TablesCoded T) (t : Table) :
    TablesCoded (withFactory t T) := by
  cases t with
  | keymaps => exact ⟨tablesCoded_factory.keymaps, h.macros⟩
  | macros => exact ⟨h.keymaps, tablesCoded_factory.macros⟩
  | _ => exact ⟨h.keymaps, h.macros⟩

theorem TablesCoded.loadTable {a : Loaded} (h : TablesCoded a.tables)
    (store : Vector (Option StoreCopy) 10) (t : Table) :
    TablesCoded (loadTable store a t).tables := by
  have factory : TablesCoded (loadFactory t a).tables := by
    unfold loadFactory
    dsimp only
    split
    · exact (h.withFactory t).withFactory .channels
    · exact h.withFactory t
  unfold Machine.loadTable
  repeat' split
  · exact factory
  · exact factory
  · rename_i hload
    unfold loadCopy at hload
    dsimp only at hload
    repeat' split at hload
    · cases hload
      exact h.written t _ _
    · cases hload
    · cases hload

/-- The tables of a load hold key codes, whatever the store holds (R172). -/
theorem tablesCoded_load (store : Vector (Option StoreCopy) 10) :
    TablesCoded (loadTables store).tables := by
  have load : ∀ (ts : List Table) (a : Loaded), TablesCoded a.tables →
      TablesCoded (ts.foldl (loadTable store) a).tables := fun ts => by
    induction ts with
    | nil => exact fun _ h => h
    | cons t ts ih => exact fun _ h => ih _ (h.loadTable store t)
  exact load _ _ tablesCoded_factory

end Sys2Proof.Machine
end

section
/-! Table writes, management requests, resets and key-downs keep the kinds of code, and so does every command but a step of
the Macro Player (chapters 02, 03, 09 and 10). -/

namespace Sys2Proof.Machine

namespace Carries

/-! ## Table writes (R167) -/

theorem applyWrite (t : Table) {T : Tables} {s : State}
    (h : TablesCoded s.tables → TablesCoded T) : Carries s (applyWrite t T s) := by
  have written : Carries s (s.withTables T) := withTables h
  unfold Machine.applyWrite
  split
  · unfold applyChannels captiveChanged
    have owner := written.trans (ownerAndPosition _)
    have cancelled := written.trans (cancelDwell _)
    dsimp only
    repeat' split
    · exact owner.trans (deskNotice _)
    · exact cancelled.trans (deskNotice _)
    · exact written.trans (deskNotice _)
    · exact owner
    · exact cancelled
    · exact written
  · refine written.trans ((foldl (fun s h => ?_) _ _).trans (deskNotice _))
    unfold mismatchAt
    dsimp only
    repeat' split
    · exact refl s
    · exact latch _ s
    · exact refl s
  · refine written.trans ((foldl (fun u m => ?_) _ _).trans (deskNotice _))
    unfold retimeMonitor
    dsimp only
    repeat' split
    · exact beginFrame m u
    · exact refl u
    · exact ceaseLive m u
    · exact becomeLive m u
    · exact refl u
  · unfold applyDesk
    dsimp only
    split
    · exact written
    · exact written.trans (aside (by simp [Aside]))
  · exact written

theorem applyConfirmed (cf : Confirm) (s : State) : Carries s (applyConfirmed cf s).2 := by
  unfold Machine.applyConfirmed
  repeat' split
  · exact refl s
  · exact refl s
  · rename_i hw
    exact applyWrite .authority fun h => h.applied hw
  · exact setMgmt _ s
  · exact refl s

theorem confirmPending (cf : Confirm) (s : State) : Carries s (confirmPending cf s) :=
  (setMgmt _ s).trans ((applyConfirmed cf _).trans
    ((latch .confirmDone _).trans (deferredOutcome _ _ _ _)))

theorem declinePending (cf : Confirm) (s : State) : Carries s (declinePending cf s) :=
  (setMgmt _ s).trans (deferredOutcome _ _ _ _)

theorem expirePending (cf : Confirm) (s : State) : Carries s (expirePending cf s) :=
  (setMgmt _ s).trans ((latch .confirmExpired _).trans
    ((requestCue .fail _).trans (deferredOutcome _ _ _ _)))

/-! ## Actions (R57 to R65) -/

theorem refuseAction (s : State) : Carries s (refuseAction s) :=
  (requestCue .refused s).trans (latch .hotkeyRefused _)

/-- A request of the Matcher for a focus change, whatever it answers. -/
theorem ofRequest {n : Chan} {s t : State} {v : Verdict}
    (h : Machine.requestFocus .hotkey n s = (v, t)) : Carries s t := by
  have := requestFocus .hotkey n s
  rwa [h] at this

theorem actSelect (arg : Option Chan) (s : State) : Carries s (actSelect arg s).2 := by
  unfold Machine.actSelect
  repeat' split
  · exact refl s
  · exact refl s
  · exact refl s
  all_goals exact ofRequest (by assumption)

theorem actCycle (order : List Chan) (s : State) : Carries s (actCycle order s).2 := by
  unfold Machine.actCycle
  repeat' split
  · exact refl s
  · exact refl s
  all_goals exact ofRequest (by assumption)

theorem actPin (s : State) : Carries s (actPin s).2 := by
  unfold Machine.actPin
  dsimp only
  split <;> exact aside (by simp [Aside])

theorem actGlideToggle (s : State) : Carries s (actGlideToggle s).2 := by
  unfold Machine.actGlideToggle
  dsimp only
  split <;> exact aside (by simp [Aside])

theorem actPreset (p : Fin 16) (s : State) : Carries s (actPreset p s).2 := by
  have h := recallPreset p s
  unfold Machine.actPreset
  split <;> rename_i hr <;> rwa [hr] at h

theorem actWake (arg : Option Chan) (s : State) : Carries s (actWake arg s).2 := by
  unfold Machine.actWake
  split
  · exact refl s
  · rename_i c _
    have h := wakeRequest c s
    split <;> rename_i hr <;> rw [hr] at h
    · exact h.trans (requestCue .wait _)
    all_goals exact h

theorem actWakeAll (s : State) : Carries s (actWakeAll s).2 := by
  unfold Machine.actWakeAll
  split
  · exact refl s
  · exact (foldl (fun s c => wakeRequest c s) _ s).trans (requestCue .wait _)

theorem actPlay (m : Fin 8) (s : State) : Carries s (actPlay m s).2 := by
  unfold Machine.actPlay
  split
  · exact refl s
  · rename_i c _
    have h := startMacro m c s
    split <;> rename_i hr <;> rwa [hr] at h

theorem act (a : Action) (s : State) : Carries s (act a s).2 := by
  cases a with
  | select c => exact actSelect c s
  | next => exact actCycle _ s
  | previous => exact actCycle _ s
  | pin => exact actPin s
  | glideToggle => exact actGlideToggle s
  | preset p => exact actPreset p s
  | wake c => exact actWake c s
  | wakeAll => exact actWakeAll s
  | play m => exact actPlay m s
  | confirm =>
    change Carries s (actConfirm s).2
    unfold actConfirm
    split
    · exact refl s
    · exact confirmPending _ s
  | cancel =>
    change Carries s (cancelMacro _)
    refine trans ?_ (endMacro .macroAborted _)
    split
    · exact refl s
    · exact declinePending _ s

theorem dispatchAction (a : Action) (s : State) : Carries s (dispatchAction a s) := by
  unfold Machine.dispatchAction
  dsimp only
  split
  · exact (act a s).trans (refuseAction _)
  · exact act a s

/-! ## Key-downs (R25, R48 to R54) -/

theorem chordMatch (p : Port) (k : Code) (s : State) : Carries s (chordMatch p k s).2 := by
  unfold Machine.chordMatch
  split
  · exact dispatchAction _ s
  · exact refl s

theorem armedKey (p : Port) (k : Code) (s : State) : Carries s (armedKey p k s).2 := by
  unfold Machine.armedKey
  dsimp only
  split
  · exact (calm s).trans (dispatchAction _ _)
  · exact (calm s).trans (refuseAction _)

theorem examine (p : Port) {k : Code} (hk : isKeyCode k = true) (s : State) :
    Carries s (examine p k s).2 := by
  unfold Machine.examine
  split
  · unfold examineIdle
    split
    · exact setAttention fun j q hj _ => (Attention.tapDown.inj hj).1 ▸ hk
    · exact chordMatch p k s
  · rename_i j q ha
    exact (routeKey q fun hs => hs.tap j q ha).trans ((calm _).trans (chordMatch p k _))
  · split
    · exact setAttention fun _ _ hj => nomatch hj
    · exact (lateTap _ _ s).trans ((calm _).trans (chordMatch p k _))
  · split
    · exact chordMatch p k s
    · exact armedKey p k s

theorem keyDown (p : Port) {k : Code} (hk : isKeyCode k = true) (s : State) :
    Carries s (keyDown p k s) := by
  have h := examine p hk s
  have put : ∀ t x, Idle (some x) → Carries t (t.putKey p k x) := fun t x hx =>
    putKey ⟨rfl, rfl, rfl, rfl, rfl, rfl⟩ (fun _ => hk) (t.allows_of_idle hx)
  rcases hex : Machine.examine p k s with ⟨a, t⟩
  rw [hex] at h
  cases a with
  | consume => rw [keyDown_consume hex]; exact h.trans (put t _ (by simp [Idle]))
  | withhold => rw [keyDown_withhold hex]; exact h.trans (put t _ (by simp [Idle]))
  | decline => rw [keyDown_decline hex]; exact h.trans (routeKey p fun _ => hk)

theorem keyDowns (p : Port) {ks : List Code} (hks : ∀ k ∈ ks, isKeyCode k = true) (s : State) :
    Carries s (ks.foldl (fun s k => Machine.keyDown p k s) s) := by
  induction ks generalizing s with
  | nil => exact refl s
  | cons k ks ih => exact (keyDown p (hks k (by simp)) s).trans (ih (fun j hj => hks j (by simp [hj])) _)

/-- A keyboard port set to a last report that fits. -/
theorem setKeyPort (p : Port) {k : KeyPort} (s : State)
    (hk : Coded s → reportFits k.last) : Carries s (s.setKeyPort p k) where
  coded h :=
    { ports := fun q => by
        rw [State.keyPort_setKeyPort]
        split
        · exact hk h
        · exact h.ports q
      entries := by simpa using h.entries
      tap := by simpa using h.tap
      tables := by simpa using h.tables
      player := by simpa using h.player }
  served pl hpl := .inr ⟨pl, by simpa using hpl, rfl, fun _ => id,
    fun k hk => by simpa [State.keyHolds] using hk⟩

theorem acceptReport (p : Port) {codes : List Code} (h : reportFits codes) (s : State) :
    Carries s (acceptReport p codes s) :=
  ((foldl (fun s k => keyUp p k s) _ s).trans (keyDowns p (fun k hk => h.2 k (List.mem_filter.1 hk).1) _)).trans
    (setKeyPort p _ fun _ => h)

theorem attachKeyboard (p : Port) (boot : Bool) (s : State) : Carries s (attachKeyboard p boot s) := by
  unfold Machine.attachKeyboard
  split
  · exact (setKeyPort p (k := ⟨.active, []⟩) s fun _ => reportFits_nil).trans
      (aside (by simp [Aside]))
  · exact setKeyPort p s fun h => h.ports p

theorem detachKeyboard (p : Port) (s : State) : Carries s (detachKeyboard p s) :=
  (setKeyPort p (k := { s.keyPort p with state := .absent }) s fun h => h.ports p).trans
    ((foldl (fun s k => keyUp p k s) _ _).trans (setKeyPort p _ fun _ => reportFits_nil))

/-! ## Requests (chapter 09) -/

theorem request (cmd : Command) (c : Chan) (f : Frame) {work : State → Reply × State}
    (h : ∀ s, Carries s (work s).2) (s : State) : Carries s (request cmd c f work s) := by
  unfold Machine.request
  repeat' split
  · exact respond c _ _ _ s
  · exact (h s).trans (respond c _ _ _ _)
  · exact refl s

theorem requestWhenOk (cmd : Command) (c : Chan) (f : Frame) {work : State → Reply × State}
    (h : ∀ s, Carries s (work s).2) (s : State) :
    Carries s (Machine.request cmd c f (whenOk cmd f work) s) :=
  request cmd c f (fun s => by
    unfold whenOk
    split
    · exact h s
    · exact refl s) s

theorem tableRequest (cmd : Command) (c : Chan) (f : Frame)
    {work : Table → State → Reply × State} (h : ∀ t s, Carries s (work t s).2) (s : State) :
    Carries s (tableRequest cmd c f work s) :=
  requestWhenOk cmd c f (fun s => by
    split
    · exact refl s
    · exact h _ s) s

theorem takeConfirm (kind : ConfirmKind) (c : Chan) (f : Frame) (s : State) :
    Carries s (takeConfirm kind c f s).2 := aside (by simp [Aside, Machine.takeConfirm])

theorem takeWriteTable (c : Chan) (f : Frame) (s : State) : Carries s (takeWriteTable c f s) :=
  request .writeTable c f (fun s => by
    split
    · exact refl s
    · exact takeConfirm .authorityWrite c f s
    · unfold workWriteTable
      split
      · exact refl s
      · rename_i hw
        exact applyWrite _ fun h => h.applied hw) s

theorem workSelect (f : Frame) (s : State) : Carries s (workSelect f s).2 := by
  unfold Machine.workSelect
  split
  · exact refl s
  · rename_i n _
    have h := requestFocus .management n s
    split <;> rename_i hr <;> rwa [hr] at h

theorem workRecallPreset (f : Frame) (s : State) : Carries s (workRecallPreset f s).2 := by
  unfold Machine.workRecallPreset
  split
  · exact refl s
  · exact recallPreset _ s

theorem workSetLayout (f : Frame) (s : State) : Carries s (workSetLayout f s).2 := by
  unfold Machine.workSetLayout
  split
  · exact setLayoutOn _ _ s
  · exact refl s

theorem workWake (f : Frame) (s : State) : Carries s (workWake f s).2 := by
  unfold Machine.workWake
  split
  · exact refl s
  · exact wakeRequest _ s

theorem workPlayMacro (f : Frame) (s : State) : Carries s (workPlayMacro f s).2 := by
  unfold Machine.workPlayMacro
  split
  · exact startMacro _ _ s
  · exact refl s

theorem workReadTable (t : Table) (f : Frame) (s : State) : Carries s (workReadTable t f s).2 := by
  unfold Machine.workReadTable
  split <;> exact refl s

theorem workClearEvents (f : Frame) (s : State) : Carries s (workClearEvents f s).2 := by
  unfold Machine.workClearEvents
  split
  · exact refl s
  · exact setMgmt _ s

/-! ## The desk restart (R179) -/

/-- What a restart clears (R43, R67, R83, R99, R123, R148). -/
theorem cleared (s : State) : Carries s (dropWaiting (restartFocus
    (Machine.setPlayer none (Machine.setAttention .idle (clearHeld s))))) where
  coded h :=
    { h with
      ports := h.ports
      entries := fun _ he => nomatch he
      tap := fun _ _ ha => nomatch ha
      player := fun _ hpl => nomatch hpl }
  served _ hpl := nomatch hpl

theorem sendEmptyReports (s : State) (c : Chan) : Carries s (sendEmptyReports s c) :=
  (offer c _ _ s).trans (offer c _ _ _)

theorem restartBlocks (s : State) : Carries s (restartBlocks s) :=
  (foldl (fun s c => discardQueue c s) allChans s).trans ((cleared _).trans
    ((foldl sendEmptyReports allChans _).trans (driveConsoleLeds _)))

theorem restartOwner (s : State) : Carries s (restartOwner s).2 := by
  unfold Machine.restartOwner
  dsimp only
  repeat' split
  · exact refl s
  · exact setPointer _ s
  · exact (setPointer _ s).trans (deliverMotion _ _ _ _)

theorem takeDeskRestart (c : Chan) (f : Frame) (s : State) :
    Carries s (takeDeskRestart c f s) := by
  have declined : Carries s (declineAny s) := by
    unfold declineAny
    split
    · exact refl s
    · exact declinePending _ s
  have restarted : Carries s (restart s).2 :=
    declined.trans ((setMgmt _ _).trans ((latch .deskStart _).trans
      ((restartBlocks _).trans (restartOwner _))))
  unfold Machine.takeDeskRestart
  split
  · unfold restartAndAnswer restartNotice
    have answered := restarted.trans
      (respond c f.tag (s.adjustedFlag .deskRestart c f) (.bare .ok) _)
    dsimp only
    split
    · exact answered.trans (pointerNotice _ _)
    · exact answered
  · exact request .deskRestart c f refl s

theorem takeCommand (cmd : Command) (c : Chan) (f : Frame) (s : State) :
    Carries s (takeCommand cmd c f s) := by
  cases cmd with
  | identify => exact requestWhenOk .identify c f refl s
  | readTable => exact tableRequest .readTable c f (fun t => workReadTable t f) s
  | writeTable => exact takeWriteTable c f s
  | lockTable => exact tableRequest .lockTable c f (fun _ s => setMgmt _ s) s
  | signTable => exact tableRequest .signTable c f (fun _ => refl) s
  | saveStore => exact requestWhenOk .saveStore c f (fun s => setMgmt _ s) s
  | setPolicy => exact request .setPolicy c f (takeConfirm .setPolicy c f) s
  | select => exact requestWhenOk .select c f (workSelect f) s
  | recallPreset => exact requestWhenOk .recallPreset c f (workRecallPreset f) s
  | setLayout => exact requestWhenOk .setLayout c f (workSetLayout f) s
  | wake => exact requestWhenOk .wake c f (workWake f) s
  | playMacro => exact requestWhenOk .playMacro c f (workPlayMacro f) s
  | readState => exact requestWhenOk .readState c f refl s
  | readEvents => exact requestWhenOk .readEvents c f (fun s => setMgmt _ s) s
  | clearEvents => exact requestWhenOk .clearEvents c f (workClearEvents f) s
  | deskRestart => exact takeDeskRestart c f s

theorem takeReport (c : Chan) (report : List Byte) (s : State) :
    Carries s (takeReport c report s) := by
  unfold Machine.takeReport
  repeat' split
  · exact respond c _ _ _ s
  · exact respond c _ _ _ s
  · exact takeCommand _ c _ s
  · exact refl s

/-! ## The store and power-on (R21, R171, R172) -/

theorem tableWritten (sv : Save) (s : State) : Carries s (tableWritten sv s) := by
  unfold Machine.tableWritten
  dsimp only
  split <;> exact aside (by simp [Aside, storeTable])

theorem writeFailed (sv : Save) (s : State) : Carries s (writeFailed sv s) :=
  aside (by simp [Aside, Machine.writeFailed, storeUnknown])

/-- A power-on leaves nothing held and no player, with the tables of the load (R172). -/
theorem powerOnBase (detect : Vector Bool 6) (s : State) :
    Carries s (powerOnBase detect (loadTables s.storeAtPowerOn) s) where
  coded _ :=
    { ports := fun p => by cases p <;> exact ⟨by simp [State.keyPort, Machine.powerOnBase, Console.reset],
        by simp [State.keyPort, Machine.powerOnBase, Console.reset]⟩
      entries := fun _ he => nomatch he
      tap := fun _ _ ha => nomatch ha
      tables := tablesCoded_load _
      player := fun _ hpl => nomatch hpl }
  served _ hpl := nomatch hpl

theorem powerOn (detect : Vector Bool 6) (s : State) : Carries s (powerOn detect s) := by
  have base := powerOnBase detect s
  unfold Machine.powerOn
  dsimp only
  generalize loadTables s.storeAtPowerOn = a at base
  have started : Carries s (latchStart a.failed (Machine.powerOnBase detect a s)) := by
    unfold latchStart
    dsimp only
    split
    · exact base.trans ((latch _ _).trans (latch _ _))
    · exact base.trans (latch _ _)
  refine started.trans ((foldl (fun u m => ?_) _ _).trans ((foldl (fun u m => ?_) _ _).trans
    (deskNotice _)))
  · unfold powerOnLayout
    dsimp only
    repeat' split
    all_goals exact aside (by simp [Aside])
  · unfold powerOnFrame
    split
    · exact setMonitorRun m _ u
    · exact refl u

end Carries

end Sys2Proof.Machine
end

section
/-! Every step keeps the codes of the part and the sizes of the pressed sets (R40): O19. -/

namespace Sys2Proof.Machine

/-! ## Console reports (R25, R26) -/

theorem length_insertCode_filter (f : Code → Bool) (k : Code) (l : List Code) :
    ((insertCode k l).filter f).length ≤ (l.filter f).length + 1 := by
  induction l with
  | nil =>
    unfold insertCode
    exact (List.length_filter_le f [k])
  | cons a l ih =>
    unfold insertCode
    split
    · by_cases hk : f k <;> simp [hk]
    · split
      · simp
      · by_cases ha : f a <;> simp [ha] <;> omega

theorem isModifier_of_mem_modifierCodes {b : Byte} {k : Code} (h : k ∈ modifierCodes b) :
    isModifier k = true := by
  have all : ∀ j ∈ [224, 225, 226, 227, 228, 229, 230, 231], isModifier j = true := by decide
  exact all k (List.mem_filter.1 h).1

theorem mem_foldr_insertCode {l : List Code} {k : Code} : k ∈ l.foldr insertCode [] ↔ k ∈ l := by
  induction l with
  | nil => simp
  | cons a l ih => simp [mem_insertCode, ih]

theorem mem_reportCodes {r : KeyboardBytes} {k : Code} :
    k ∈ reportCodes r ↔ (k ∈ slotCodes r ∧ k ≠ 0) ∨ k ∈ modifierCodes r.modifiers := by
  simp [reportCodes, mem_foldr_insertCode]

theorem isOrdinary_of_not_held {r : KeyboardBytes} (h : reportHeld r = false) :
    ∀ k ∈ slotCodes r, k ≠ 0 → isOrdinary k = true := by
  have := (Bool.or_eq_false_iff.1 h).1
  simpa using this

/-- An accepted report brings key codes, six at most besides modifiers. -/
theorem reportFits_reportCodes {r : KeyboardBytes} (h : reportHeld r = false) :
    reportFits (reportCodes r) := by
  refine ⟨?_, fun k hk => ?_⟩
  · have bound : ∀ l : List Code,
        ((l.foldr insertCode []).filter fun k => !isModifier k).length ≤ l.length := fun l => by
      induction l with
      | nil => simp
      | cons a l ih => exact (length_insertCode_filter _ a _).trans (by simpa using ih)
    have none : (modifierCodes r.modifiers).filter (fun k => !isModifier k) = [] :=
      List.filter_eq_nil_iff.2 fun k hk => by simp [isModifier_of_mem_modifierCodes hk]
    rw [reportCodes, List.filter_append, none, List.append_nil]
    exact (bound _).trans (List.length_filter_le _ _)
  · unfold isKeyCode
    rcases mem_reportCodes.1 hk with ⟨hslot, hne⟩ | hmod
    · simp [isOrdinary_of_not_held h k hslot hne]
    · simp [isModifier_of_mem_modifierCodes hmod]

/-! ## Sizes (R40) -/

/-- The console codes of a port's entries ascend (R24, R28). -/
theorem pairwise_codesOf {s : State} (h : Sorted s.router.entries) (p : Port) :
    (s.codesOf p).Pairwise (· < ·) := by
  refine List.pairwise_map.2 ((h.filter _).imp_of_mem fun {a b} ha hb hab => ?_)
  have hpa : a.port = p := by simpa using (List.mem_filter.1 ha).2
  have hpb : b.port = p := by simpa using (List.mem_filter.1 hb).2
  rcases (entryBefore_iff a b).1 hab with hlt | ⟨-, hka, hkb⟩
  · exact hlt
  · rw [← hpa, hka] at hpb
    rw [hkb] at hpb
    cases hpb

/-- A list without repeats has no more codes that are no modifiers than one that holds all of its own. -/
theorem length_ordinary_le {l m : List Code} (hl : l.Nodup)
    (h : ∀ k ∈ l, isModifier k = false → k ∈ m) :
    (l.filter fun k => !isModifier k).length ≤ (m.filter fun k => !isModifier k).length := by
  refine ((hl.filter _).subperm fun k hk => ?_).length_le
  obtain ⟨hk, hm⟩ := List.mem_filter.1 hk
  exact List.mem_filter.2 ⟨h k hk (by simpa using hm), hm⟩

/-- The ports' last reports leave room for twelve entries with codes that are no modifiers (R26, R28). -/
theorem countP_ordinary_entries {s : State} (hs : Sorted s.router.entries) (hp : PortsSound s)
    (hc : Coded s) : (s.router.entries.countP fun e => !isModifier e.code) ≤ 12 := by
  have port : ∀ p, ((s.router.entries.filter fun e => e.port == p).countP
      fun e => !isModifier e.code) ≤ 6 := fun p => by
    have hle := length_ordinary_le ((pairwise_codesOf hs p).imp ne_of_lt)
      (m := (s.keyPort p).last) fun k hk _ => by
        obtain ⟨e, he, rfl, rfl⟩ := mem_codesOf.1 hk
        exact hp.keys e he
    rw [← List.countP_eq_length_filter, State.codesOf, List.countP_map] at hle
    exact hle.trans (hc.ports p).1
  have aux : (s.router.entries.filter fun e => ! (e.port == .key)) =
      s.router.entries.filter fun e => e.port == .aux :=
    List.filter_congr fun e _ => by cases e.port <;> rfl
  rw [List.countP_eq_countP_filter_add _ _ fun e => e.port == .key, aux]
  exact Nat.add_le_add (port .key) (port .aux)

/-- Codes that entries keep down fit a report (R40). -/
theorem fitsReport_of_keyHolds {s : State} (hs : Sorted s.router.entries) (hp : PortsSound s)
    (hc : Coded s) {c : Chan} {ks : List Code} (hks : ks.Nodup)
    (h : ∀ k ∈ ks, s.keyHolds c k) : fitsReport ks := by
  have held : ∀ k ∈ ks, ∃ e ∈ s.router.entries, e.target = .channel c (some k) .delivered ∧
      Translates e.code k := fun k hk => by
    obtain ⟨e, he, hx⟩ := h k hk
    exact ⟨e, he, hx, (hc.entries e he).2 _ _ _ hx⟩
  refine ⟨?_, fun k hk => (held k hk).elim fun e he => he.2.2.1⟩
  have sub : (ks.filter fun k => !isModifier k) ⊆
      (s.router.entries.filter fun e => !isModifier e.code).filterMap fun e => match e.target with
        | .channel _ u _ => u
        | _ => none := fun k hk => by
    obtain ⟨hk, hm⟩ := List.mem_filter.1 hk
    obtain ⟨e, he, hx, ht⟩ := held k hk
    exact List.mem_filterMap.2 ⟨e, List.mem_filter.2 ⟨he, ht.2 ▸ hm⟩, by rw [hx]⟩
  calc _ ≤ _ := ((hks.filter _).subperm sub).length_le
    _ ≤ _ := List.length_filterMap_le _ _
    _ = _ := (List.countP_eq_length_filter ..).symm
    _ ≤ 12 := countP_ordinary_entries hs hp hc

theorem nodup_pressedSet {s : State} (h : KeysSound s) (c : Chan) : (s.pressedSet c).Nodup :=
  (List.pairwise_map.2 (((keysSound_iff s).1 h).1.canonical c).1).imp ne_of_lt

/-- What a change that keeps the codes makes of pressed sets that fit: a code stands on a served channel only if it did so
before, or is the player's own. -/
theorem Carries.fits {s t : State} (h : Carries s t) (hs : KeysSound s) (ht : KeysSound t)
    (hc : Coded t) (fits : ∀ c, fitsReport (s.pressedSet c)) (c : Chan) :
    fitsReport (t.pressedSet c) := by
  obtain ⟨core, -, ports⟩ := (keysSound_iff t).1 ht
  have down := mem_pressedSet_iff ht c
  have byEntries : (∀ pl, t.player = some pl → pl.chan = c → pl.pressed = []) →
      fitsReport (t.pressedSet c) := fun hpl =>
    fitsReport_of_keyHolds (c := c) core.sorted ports hc (nodup_pressedSet ht c) fun k hk => by
      rcases (down k).1 hk with ⟨p, j, he⟩ | ⟨pl, hp, hchan, hk⟩
      · exact ⟨_, he, rfl⟩
      · simp [hpl pl hp hchan] at hk
  by_cases hpl : ∀ pl, t.player = some pl → pl.chan = c → pl.pressed = []
  · exact byEntries hpl
  · push Not at hpl
    obtain ⟨pl, hp, rfl, hne⟩ := hpl
    obtain ⟨old, hold, hchan, hsub, hheld⟩ := (h.served pl hp).resolve_left hne
    have stood : ∀ k ∈ t.pressedSet pl.chan, k ∈ s.pressedSet pl.chan := fun k hk => by
      rw [mem_pressedSet_iff hs]
      rcases (down k).1 hk with ⟨p, j, he⟩ | ⟨pl', hp', -, hk⟩
      · obtain ⟨⟨p, j, x⟩, he, rfl⟩ := hheld k ⟨_, he, rfl⟩
        exact .inl ⟨p, j, he⟩
      · obtain rfl := Option.some.inj (hp.symm.trans hp')
        exact .inr ⟨old, hold, hchan, hsub hk⟩
    obtain ⟨size, codes⟩ := fits pl.chan
    exact ⟨(length_ordinary_le (nodup_pressedSet ht pl.chan) fun k hk _ => stood k hk).trans size,
      fun k hk => codes k (stood k hk)⟩

/-! ## The whole -/

/-- The kinds of code and the sizes of the pressed sets, beside sound tables. -/
structure Measured (s : State) : Prop where
  sound : Disciplined False s
  coded : Coded s
  fits : ∀ c, fitsReport (s.pressedSet c)

theorem Measured.carry {s t : State} (h : Measured s) (ht : Disciplined False t)
    (hc : Carries s t) : Measured t :=
  ⟨ht, hc.coded h.coded, hc.fits h.sound.keysSound ht.keysSound (hc.coded h.coded) h.fits⟩

theorem Measured.codesSound {s : State} (h : Measured s) : CodesSound s :=
  ⟨h.coded.ports, fun e he c t st hx => (h.coded.entries e he).2 c t st hx, h.coded.tables.keymaps,
    h.coded.tables.macros, h.coded.player, h.fits⟩

theorem measured_of_codesSound {s : State} (hs : KeysSound s) (hc : CodesSound s) : Measured s := by
  have sound := (keysSound_iff_disciplined s).1 hs
  obtain ⟨ports, entries, keymaps, macros, player, fits⟩ := hc
  have code : ∀ e ∈ s.router.entries, isKeyCode e.code = true := fun e he =>
    (ports e.port).2 _ (sound.ports.keys e he)
  exact ⟨sound, ⟨ports, fun e he => ⟨code e he, fun c t st hx => entries e he c t st hx⟩,
    fun k p ha => code _ (sound.sound.tap k p ha), ⟨keymaps, macros⟩, player⟩, fits⟩

/-! ## The player's presses (R39) -/

theorem mem_addPressed {j k : Code} {ks : List Code} (h : k ∉ ks) :
    j ∈ addPressed k ks ↔ j = k ∨ j ∈ ks :=
  (KeyView.Core.addPressed_perm h).mem_iff.trans List.mem_cons

/-- Under the code limit a pressed set that takes in one more code still fits (R39, R40). -/
theorem fitsReport_press {s : State} {c : Chan} {k : Code} {ks : List Code} (hks : ks.Nodup)
    (sub : ∀ j ∈ ks, j = k ∨ j ∈ s.pressedSet c) (hk : isKeyCode k = true)
    (fits : fitsReport (s.pressedSet c)) (limit : s.overLimit c k = false) : fitsReport ks := by
  obtain ⟨size, codes⟩ := fits
  refine ⟨?_, fun j hj => (sub j hj).elim (fun e => e ▸ hk) (codes j)⟩
  by_cases hnew : isModifier k = true ∨ k ∈ s.pressedSet c
  · refine (length_ordinary_le (m := s.pressedSet c) hks fun j hj hm => ?_).trans size
    rcases sub j hj with rfl | hj
    · exact hnew.resolve_left (by simp [hm])
    · exact hj
  · have room : ((s.pressedSet c).filter fun k => !isModifier k).length < 12 := by
      by_contra full
      simp [State.overLimit, State.ordinaryCount, not_or.1 hnew, not_lt.1 full] at limit
    have grown := length_ordinary_le (m := k :: s.pressedSet c) hks fun j hj _ =>
      List.mem_cons.2 (sub j hj)
    have one := List.length_filter_le (fun k => !isModifier k) [k]
    rw [← List.singleton_append, List.filter_append, List.length_append] at grown
    simp only [List.length_singleton] at one
    omega

/-- The player asks for a press (R39). -/
theorem Measured.press {s : State} (h : Measured s) {pl : Player} (hp : s.player = some pl)
    {k : Code} (hk : isKeyCode k = true) : Measured (playerPress pl k s).2 := by
  have sound := h.sound.background (Background.playerPress k hp)
  unfold playerPress at sound ⊢
  split
  · exact h
  · rename_i hnew
    have hnew : k ∉ pl.pressed := by simpa using hnew
    rw [if_neg (by simpa using hnew)] at sound
    split
    · exact h
    · rename_i hlimit
      rw [if_neg hlimit] at sound
      obtain ⟨steps, pressed⟩ := h.coded.player pl hp
      have held : Coded { s with player := some { pl with pressed := addPressed k pl.pressed } } :=
        { h.coded with
          ports := h.coded.ports
          player := fun pl' hpl => by
            obtain rfl := Option.some.inj hpl
            exact ⟨steps, fun j hj => ((mem_addPressed hnew).1 hj).elim (fun e => e ▸ hk)
              (pressed j)⟩ }
      refine ⟨sound, (Carries.pressCode pl.chan k _).coded held, fun c => ?_⟩
      have nodup := nodup_pressedSet sound.keysSound c
      have counts := congrFun (congrArg KeyView.counts (view_pressCode
        { s with player := some { pl with pressed := addPressed k pl.pressed } } pl.chan k)) c
      change State.counts _ c =
        Function.update s.counts pl.chan (countUp k (s.counts pl.chan)) c at counts
      by_cases hc : c = pl.chan
      · subst hc
        refine fitsReport_press nodup (fun j hj => ?_) hk (h.fits _) (by simpa using hlimit)
        rw [State.pressedSet, counts, Function.update_self] at hj
        obtain ⟨a, ha, rfl⟩ := List.mem_map.1 hj
        exact (mem_countUp ha).imp_right fun ⟨b, hb, e⟩ => e ▸ List.mem_map_of_mem hb
      · rw [State.pressedSet, counts, Function.update_of_ne hc]
        exact h.fits c

theorem Measured.playStep {s : State} (h : Measured s) {pl : Player} (hp : s.player = some pl)
    {st : MacroStep} (hst : st.InRange) : Measured (playStep pl st s) := by
  have sound := h.sound.background (Background.playStep st hp)
  cases st with
  | press k =>
    have pressed := h.press hp (k := k) hst
    unfold Machine.playStep at sound ⊢
    dsimp only at sound ⊢
    rcases hr : playerPress pl k s with ⟨_ | _, s1⟩ <;> rw [hr] at sound pressed
    · exact pressed.carry sound (.advance _ _ _)
    · exact pressed.carry sound ((Carries.countSkipped _).trans (.advance _ _ _))
  | tap k =>
    have pressed := h.press hp (k := k) hst
    unfold Machine.playStep at sound ⊢
    dsimp only at sound ⊢
    rcases hr : playerPress pl k s with ⟨_ | _, s1⟩ <;> rw [hr] at sound pressed
    · exact pressed.carry sound ((Carries.setTapHalf _ _).trans (.advance _ _ _))
    · exact pressed.carry sound ((Carries.countSkipped _).trans (.advance _ _ _))
  | release k => exact h.carry sound ((Carries.playerRelease k hp).trans (.advance _ _ _))
  | pause n => exact h.carry sound (.advance _ _ _)

theorem Measured.stepExpiry {s : State} (h : Measured s) {pl : Player} (hp : s.player = some pl) :
    Measured (stepExpiry pl s) := by
  have sound := h.sound.background (Background.stepExpiry hp)
  unfold Machine.stepExpiry at sound ⊢
  split
  · rename_i k hhalf
    rw [hhalf] at sound
    exact h.carry sound ((Carries.playerRelease k hp).trans
      ((Carries.setTapHalf _ _).trans (.advance _ _ _)))
  · split
    · rename_i st hst
      exact h.playStep hp ((h.coded.player pl hp).1 st (List.mem_of_getElem? hst))
    · exact h.carry (h.sound.background (.endMacro _ s)) (.endMacro _ s)

/-! ## Every command -/

/-- A command that completes with a change that keeps the codes. -/
def Carried (s : State) (r : Host.Outcome State Fault Refusal) : Prop :=
  ∃ t, r = .next t ∧ Carries s t

theorem Carried.next {s t : State} (h : Carries s t) : Carried s (.next t) := ⟨t, rfl, h⟩

theorem Carried.same (s : State) : Carried s (.next s) := .next (.refl s)

/-- A branch of a command that does something in one case alone. -/
theorem Carried.ite {s : State} {P : Prop} [Decidable P]
    {a b : Host.Outcome State Fault Refusal} (ha : P → Carried s a) (hb : ¬P → Carried s b) :
    Carried s (if P then a else b) := by
  split
  · exact ha (by assumption)
  · exact hb (by assumption)

theorem carried_keyboardReport (p : Port) (r : KeyboardBytes) (s : State) :
    Carried s (execKeyboardReport p r s) :=
  .ite (fun _ => .ite (fun _ => .next (.latch _ s)) fun hr =>
    .next (.acceptReport p (reportFits_reportCodes (by simpa using hr)) s)) fun _ => .same s

theorem carried_keyboardPortDetach (p : Port) (s : State) :
    Carried s (execKeyboardPortDetach p s) := by
  unfold execKeyboardPortDetach
  split
  · exact .same s
  · exact .next (.setKeyPort p s fun h => h.ports p)
  · exact .next (.detachKeyboard p s)

theorem carried_pointerPort (s : State) (port : PointerPort) : Carries s (s.setPtr port) :=
  .aside ⟨rfl, rfl, rfl, rfl, rfl, rfl⟩

theorem exec_carried (i : Instr) (s : State) (hi : i ≠ .macroStepExpiry) :
    Carried s (exec i s) := by
  cases i with
  | powerOnReset detect => exact .next (.powerOn detect s)
  | configure c =>
    exact .ite (fun _ => .next (.bringUp c s)) fun _ => .next ((Carries.loseLink c s).trans (.bringUp c _))
  | setRemoteWake c on => exact .ite (fun _ => .next (.setLink c _ s)) fun _ => .same s
  | suspend c => exact .ite (fun _ => .next (.suspendLink c s)) fun _ => .same s
  | resume c =>
    change Carried s (execResume c s)
    unfold execResume
    split
    · exact .next (.resumeLink c s)
    · exact .next (.resumeLink c s)
    · exact .same s
    · exact .same s
  | wakeWindowExpiry c =>
    exact .ite (fun _ => .ite (fun _ => .next (.aside (by simp [Aside]))) fun _ => .next (.failWake c s))
      fun _ => .same s
  | linkLoss c => exact .ite (fun _ => .same s) fun _ => .next (.loseLink c s)
  | ledOutputReport c lamps =>
    exact .ite (fun _ => .next ((Carries.setLink c _ s).trans (.ledsIfFocus c _))) fun _ => .same s
  | getReport c asked => exact .next (.offer c asked _ s)
  | keyboardPortAttach p boot =>
    exact .ite (fun _ => .next (.attachKeyboard p boot s)) fun _ => .same s
  | keyboardPortDetach p => exact carried_keyboardPortDetach p s
  | keyboardReport p r => exact carried_keyboardReport p r s
  | tapWindowExpiry =>
    change Carried s (execTapWindowExpiry s)
    unfold execTapWindowExpiry
    split
    · exact .next ((Carries.lateTap _ _ s).trans (.calm _))
    · exact .same s
  | armWindowExpiry =>
    change Carried s (execArmWindowExpiry s)
    unfold execArmWindowExpiry
    split
    · exact .next (.calm s)
    · exact .same s
  | cueElementEnd => exact .next (.setFocus _ s)
  | sleepPulse => exact .next (.setFocus _ s)
  | macroStepExpiry => exact absurd rfl hi
  | pointerPortAttach relative =>
    exact .ite (fun _ => .next (by split <;> exact carried_pointerPort s _)) fun _ => .same s
  | pointerPortDetach =>
    change Carried s (execPointerPortDetach s)
    unfold execPointerPortDetach
    split
    · exact .same s
    · exact .next (carried_pointerPort s _)
    · exact .next ((carried_pointerPort s _).trans
        ((Carries.takeSample _ _).trans (carried_pointerPort _ _)))
  | pointerReport bytes =>
    exact .ite (fun _ => .next ((carried_pointerPort s _).trans (.takeSample _ _))) fun _ => .same s
  | dwellExpiry => exact .next (.completeDwell s)
  | headSignalChange h detected =>
    exact .ite (fun _ => .same s) fun _ => .next (.changeSignal h _ s)
  | hotPlugChange m asserted => exact .ite (fun _ => .same s) fun _ => .next (.changeSink m asserted s)
  | frameStart m => exact .ite (fun _ => .next (.beginFrame m s)) fun _ => .same s
  | confirmWindowExpiry =>
    change Carried s (execConfirmWindowExpiry s)
    unfold execConfirmWindowExpiry
    split
    · exact .same s
    · exact .next (.expirePending _ s)
  | storeTableWritten =>
    change Carried s (execStoreTableWritten s)
    unfold execStoreTableWritten
    split
    · exact .same s
    · exact .next (.tableWritten _ s)
  | storeWriteFailed =>
    change Carried s (execStoreWriteFailed s)
    unfold execStoreWriteFailed
    split
    · exact .same s
    · exact .next (.writeFailed _ s)
  | unknownCommand c report => exact .next (.takeReport c report s)
  | identify c f => exact .next (.takeCommand .identify c f s)
  | readTable c f => exact .next (.takeCommand .readTable c f s)
  | writeTable c f => exact .next (.takeCommand .writeTable c f s)
  | lockTable c f => exact .next (.takeCommand .lockTable c f s)
  | signTable c f => exact .next (.takeCommand .signTable c f s)
  | saveStore c f => exact .next (.takeCommand .saveStore c f s)
  | setPolicy c f => exact .next (.takeCommand .setPolicy c f s)
  | select c f => exact .next (.takeCommand .select c f s)
  | recallPreset c f => exact .next (.takeCommand .recallPreset c f s)
  | setLayout c f => exact .next (.takeCommand .setLayout c f s)
  | wake c f => exact .next (.takeCommand .wake c f s)
  | playMacro c f => exact .next (.takeCommand .playMacro c f s)
  | readState c f => exact .next (.takeCommand .readState c f s)
  | readEvents c f => exact .next (.takeCommand .readEvents c f s)
  | clearEvents c f => exact .next (.takeCommand .clearEvents c f s)
  | deskRestart c f => exact .next (.takeCommand .deskRestart c f s)

theorem Measured.exec {i : Instr} {s t : State} (h : Measured s) (hx : exec i s = .next t) :
    Measured t := by
  by_cases hi : i = .macroStepExpiry
  · subst hi
    change execMacroStepExpiry s = .next t at hx
    unfold execMacroStepExpiry at hx
    repeat' split at hx
    · cases hx
      exact h
    · cases hx
      exact h.stepExpiry (by assumption)
    · cases hx
      exact h
  · obtain ⟨u, hu, hc⟩ := exec_carried i s hi
    cases hx.symm.trans hu
    exact h.carry ((exec_keeps hx).disciplined False h.sound) hc

/-- Settles O19: whatever a step does, a served channel's pressed set grows by the player's own
presses alone, which keep to the code limit, and another channel's is held by entries of at most
twelve console keys. -/
theorem pressedSetsFitKept : Obligations.PressedSetsFitKept := by
  intro s t hs hc hstep
  have h := measured_of_codesSound hs hc
  unfold step at hstep
  split at hstep
  · cases hstep
    exact hc
  · rename_i i rest _
    have taken : Measured { s with pending := rest } :=
      ⟨⟨h.sound.sound, h.sound.ports.ports, h.sound.ports.keys, h.sound.ports.pointer,
        h.sound.ports.buttons⟩, (Carries.aside (s := s) (t := { s with pending := rest })
        ⟨rfl, rfl, rfl, rfl, rfl, rfl⟩).coded h.coded, h.fits⟩
    exact (taken.exec hstep).codesSound

end Sys2Proof.Machine
end

section
/-! The bytes of a channel keyboard report (R40): O20. -/

namespace Sys2Proof.Machine

/-! ## The modifiers -/

theorem isModifier_iff {k : Nat} : isModifier k = true ↔ 224 ≤ k ∧ k ≤ 231 := by simp [isModifier]

theorem isOrdinary_iff {k : Nat} : isOrdinary k = true ↔ 4 ≤ k ∧ k ≤ 164 := by simp [isOrdinary]

theorem getLsbD_modifierBit {k i : Nat} (hk : isModifier k = true) (hi : i < 8) :
    (modifierBit k).getLsbD i = (224 + i == k) := by
  have range := isModifier_iff.1 hk
  rw [modifierBit, BitVec.getLsbD_twoPow, Bool.eq_iff_iff, Bool.and_eq_true, decide_eq_true_eq,
    decide_eq_true_eq, beq_iff_eq]
  omega

theorem getLsbD_foldl_modifierBit {ks : List Code} (hks : ∀ k ∈ ks, isModifier k = true)
    (b : Byte) {i : Nat} (hi : i < 8) :
    (ks.foldl (fun b k => b ||| modifierBit k) b).getLsbD i =
      (b.getLsbD i || ks.contains (224 + i)) := by
  induction ks generalizing b with
  | nil => simp
  | cons k ks ih =>
    obtain ⟨hk, hks⟩ := List.forall_mem_cons.1 hks
    rw [List.foldl_cons, ih hks, BitVec.getLsbD_or, getLsbD_modifierBit hk hi, List.contains_cons,
      Bool.or_assoc]

/-- Bit `i` of a modifier set stands for code 224 + `i` (chapter 11). -/
theorem getLsbD_modifierByte (ks : List Code) {i : Nat} (hi : i < 8) :
    (modifierByte ks).getLsbD i = ks.contains (224 + i) := by
  have modifier : isModifier (224 + i) = true := isModifier_iff.2 (by omega)
  rw [modifierByte, getLsbD_foldl_modifierBit (fun k hk => (List.mem_filter.1 hk).2) 0 hi,
    Bool.eq_iff_iff]
  simp [modifier]

/-! ## The other codes -/

theorem isModifier_of_isOrdinary {k : Nat} (h : isOrdinary k = true) : isModifier k = false := by
  have range := isOrdinary_iff.1 h
  exact Bool.eq_false_iff.2 fun hm => by
    have := isModifier_iff.1 hm
    omega

theorem filter_isOrdinary {ks : List Code}
    (h : ∀ k ∈ ks, isOrdinary k = true ∨ isModifier k = true) :
    (ks.filter fun k => !isModifier k) = ks.filter fun k => isOrdinary k :=
  List.filter_congr fun k hk => by
    rcases Bool.eq_false_or_eq_true (isOrdinary k) with ho | ho
    · simp [ho, isModifier_of_isOrdinary ho]
    · simp [ho, (h k hk).resolve_left (by simp [ho])]

theorem toNat_byteOf_of_isOrdinary {k : Nat} (h : isOrdinary k = true) : (byteOf k).toNat = k := by
  have range := isOrdinary_iff.1 h
  exact Nat.mod_eq_of_lt (by omega)

theorem map_toNat_padTo {n : Nat} {ks : List Code} (h : ∀ k ∈ ks, isOrdinary k = true) :
    (padTo n (ks.map byteOf)).map (·.toNat) = ks ++ List.replicate (n - ks.length) 0 := by
  have codes : ks.map (fun k => (byteOf k).toNat) = ks :=
    (List.map_congr_left fun k hk => toNat_byteOf_of_isOrdinary (h k hk)).trans (List.map_id _)
  simp [padTo, Function.comp_def, codes]

/-- Settles O20: the codes that are no modifiers are the ordinary ones, and all have room. -/
theorem keyboardReportComposition : Obligations.KeyboardReportComposition := by
  intro ks _ kinds size
  refine ⟨modifierByte ks, _, rfl, ?_, fun i hi => getLsbD_modifierByte ks hi, ?_⟩
  · simp [padTo]
  · rw [filter_isOrdinary kinds, List.take_of_length_le size,
      map_toNat_padTo fun k hk => (List.mem_filter.1 hk).2]

end Sys2Proof.Machine
end

section
/-! A down item offered to a channel, and the late tap, in every state of its link (R12, R13, R35, R53): O23. -/

namespace Sys2Proof.Machine

/-! ## The hold decision (R12, R13) -/

section
variable {c : Chan} {s : State}

/-- A channel that holds its downs back: its link wakes, or is ACTIVE without being deliverable (R12). -/
def State.holds (s : State) (c : Chan) : Prop :=
  (s.link c).state = .waking ∨
    (s.link c).state = .active ∧ (s.serves c = true ∨ (s.link c).queue ≠ [])

/-- A channel whose link sleeps and may be woken by input (R7, R12). -/
structure State.wakes (s : State) (c : Chan) : Prop where
  asleep : (s.link c).state = .suspended
  wanted : (s.chanRec c).wakeOnInput = true
  permitted : (s.link c).permission = true

theorem State.deliverable_iff : s.deliverable c = true ↔
    (s.link c).state = .active ∧ s.serves c = false ∧ (s.link c).queue = [] := by
  simp [State.deliverable, and_assoc]

theorem not_deliverable_of_busy (h : s.serves c = true ∨ (s.link c).queue ≠ []) :
    s.deliverable c = false :=
  Bool.eq_false_iff.2 fun hd => by
    obtain ⟨-, hs, hq⟩ := State.deliverable_iff.1 hd
    exact h.elim (by simp [hs]) fun h => h hq

/-- R13: two free places. -/
theorem two_le_free (h : 2 + (s.link c).queue.length + (s.link c).reserved ≤ 32) :
    2 ≤ (s.link c).free := by
  unfold Link.free
  omega

theorem free_lt_two (h : 32 < 2 + (s.link c).queue.length + (s.link c).reserved) :
    (s.link c).free < 2 := by
  unfold Link.free
  omega

/-- A link whose queue a down item has joined, with a place reserved for its release (R13, R14). -/
def Link.withDown (l : Link) (i : HoldItem) : Link :=
  { l with queue := l.queue ++ [i], reserved := l.reserved + 1 }

theorem queueDown_room (h : 2 ≤ (s.link c).free) (i : HoldItem) :
    queueDown c i s = (.queued, s.setLink c ((s.link c).withDown i)) := by
  simp [queueDown, placeDown_admitted h, Link.withDown]

theorem queueDown_full (h : (s.link c).free < 2) (i : HoldItem) :
    queueDown c i s = (.refused, latch .holdOverflow s) := by
  simp [queueDown, placeDown_refused h]

theorem offerDown_deliverable (h : s.deliverable c = true) (i : HoldItem) :
    offerDown c i s = (.deliver, s) := by
  simp [offerDown, h, (State.deliverable_iff.1 h).1]

theorem offerDown_holds (h : s.holds c) (i : HoldItem) : offerDown c i s = queueDown c i s := by
  rcases h with h | ⟨h, busy⟩
  · simp [offerDown, h]
  · simp [offerDown, h, not_deliverable_of_busy busy]

theorem offerDown_wakes (h : s.wakes c) (i : HoldItem) :
    offerDown c i s = ((queueDown c i s).1, (wakeRequest c (queueDown c i s).2).2) := by
  simp [offerDown, h.asleep, h.wanted, h.permitted]

theorem offerDown_denied (asleep : (s.link c).state = .suspended)
    (wanted : (s.chanRec c).wakeOnInput = true) (denied : (s.link c).permission = false)
    (i : HoldItem) : offerDown c i s = (.discarded, latch .wakeDenied s) := by
  simp [offerDown, asleep, wanted, denied]

theorem offerDown_lost (h : (s.link c).state = .detached ∨
    (s.link c).state = .suspended ∧ (s.chanRec c).wakeOnInput = false) (i : HoldItem) :
    offerDown c i s = (.discarded, s) := by
  rcases h with h | ⟨h, hw⟩
  · simp [offerDown, h]
  · simp [offerDown, h, hw]

/-- A link that wakes with items of a queue (R7, R8). -/
def Link.woken (l : Link) (window : Nat) : Link :=
  { l with state := .waking, window := some window, tries := 1 }

theorem wakeRequest_wakes (h : s.wakes c) :
    wakeRequest c s = (.started, (s.setLink c ((s.link c).woken (s.chanRec c).wakeWindow)).emit
      (.wakeSignal c)) := wakeRequest_allowed h.asleep h.permitted

theorem State.wakes.latch (h : s.wakes c) (e : Event) : (latch e s).wakes c :=
  ⟨by simpa using h.asleep, by simpa [State.chanRec] using h.wanted, by simpa using h.permitted⟩

theorem State.wakes.setLink (h : s.wakes c) {l : Link} (hs : l.state = (s.link c).state)
    (hp : l.permission = (s.link c).permission) : (s.setLink c l).wakes c :=
  ⟨by simpa [hs] using h.asleep, h.wanted, by simpa [hp] using h.permitted⟩

theorem State.setLink_setLink (s : State) (c : Chan) (l m : Link) :
    (s.setLink c l).setLink c m = s.setLink c m := by
  simp only [State.setLink, put_put]

theorem offerDown_wakes_room (h : s.wakes c) (room : 2 ≤ (s.link c).free) (i : HoldItem) :
    offerDown c i s = (.queued, (s.setLink c
      (((s.link c).withDown i).woken (s.chanRec c).wakeWindow)).emit (.wakeSignal c)) := by
  have joined : (s.setLink c ((s.link c).withDown i)).wakes c := h.setLink rfl rfl
  rw [offerDown_wakes h, queueDown_room room, wakeRequest_wakes joined, State.setLink_setLink,
    State.link_setLink_same]
  rfl

theorem offerDown_wakes_full (h : s.wakes c) (full : (s.link c).free < 2) (i : HoldItem) :
    offerDown c i s = (.refused, ((latch .holdOverflow s).setLink c
      ((s.link c).woken (s.chanRec c).wakeWindow)).emit (.wakeSignal c)) := by
  rw [offerDown_wakes h, queueDown_full full, wakeRequest_wakes (h.latch _), link_latch]
  simp [State.chanRec]

end

/-! ## A code pressed and released at once (R35, R41) -/

theorem countDown_countUp (k : Code) {m : Counts} (h : m.Canonical) :
    countDown k (countUp k m) = m := by
  induction m with
  | nil => simp [countUp, countDown]
  | cons a m ih =>
    obtain ⟨j, n⟩ := a
    obtain ⟨-, hn, hm⟩ := Counts.Canonical.cons.1 h
    unfold countUp
    split
    · simp [countDown]
    · split
      · rename_i hk
        have : ¬ n + 1 ≤ 1 := by
          have : 1 ≤ n := hn
          omega
        simp [countDown, hk, this]
      · simp [countDown, *]

theorem State.setCounts_self (s : State) (c : Chan) : s.setCounts c (s.counts c) = s := by
  simp only [State.setCounts, State.counts, put_nth_self]

theorem State.setCounts_setCounts (s : State) (c : Chan) (m n : Counts) :
    (s.setCounts c m).setCounts c n = s.setCounts c n := by
  simp only [State.setCounts, put_put]

theorem releaseCode_pressCode_active {c : Chan} {s : State} (h : (s.link c).state = .active)
    (canonical : (s.counts c).Canonical) (u : Code) :
    releaseCode c u (pressCode c u s) = s.say (if countOf u (s.counts c) = 0 then
      [.report c .keyboard (keyboardReportBytes ((countUp u (s.counts c)).map (·.1))),
       .report c .keyboard (keyboardReportBytes (s.pressedSet c))] else []) := by
  have counts : (pressCode c u s).counts c = countUp u (s.counts c) := by
    rw [pressCode_active h]
    exact s.counts_setCounts_same c _
  have active : ((pressCode c u s).link c).state = .active := by simpa [State.link] using h
  have down : countOf u (countUp u (s.counts c)) = 1 ↔ countOf u (s.counts c) = 0 := by
    rw [countOf_countUp, if_pos rfl, Nat.add_eq_right]
  have back : (pressCode c u s).setCounts c (s.counts c) = s.say
      (if countOf u (s.counts c) = 0 then
        [.report c .keyboard (keyboardReportBytes ((countUp u (s.counts c)).map (·.1)))]
        else []) := by
    rw [pressCode_active h]
    exact congrArg (State.say · _) ((s.setCounts_setCounts c _ _).trans (s.setCounts_self c))
  rw [releaseCode_active active, counts, countDown_countUp u canonical, back]
  simp only [down]
  rw [pressCode_active h]
  split
  · exact State.say_say ..
  · exact State.say_say s _ _

/-! ## The tap (R35) -/

section
variable {c : Chan} {s : State} {p : Port} {k u : Code}

/-- Both halves of a tap in the queue: the release takes the place that the press reserved (R14, R35). -/
def Link.tapped (l : Link) (p : Port) (k u : Code) : Link :=
  { l with queue := l.queue ++ [.keyDown p k u false, .keyUp p k u false] }

theorem deliverTap_deliverable (ht : s.translate c k = some u) (h : s.deliverable c = true) :
    deliverTap c p k s = releaseCode c u (pressCode c u s) := by
  simp [deliverTap, ht, offerDown_deliverable h]

theorem deliverTap_holds_room (ht : s.translate c k = some u) (h : s.holds c)
    (room : 2 ≤ (s.link c).free) :
    deliverTap c p k s = s.setLink c ((s.link c).tapped p k u) := by
  simp [deliverTap, ht, offerDown_holds h, queueDown_room room, placeRelease,
    State.setLink_setLink, Link.tapped, Link.withDown]

theorem deliverTap_holds_full (ht : s.translate c k = some u) (h : s.holds c)
    (full : (s.link c).free < 2) : deliverTap c p k s = latch .holdOverflow s := by
  simp [deliverTap, ht, offerDown_holds h, queueDown_full full]

theorem deliverTap_wakes_room (ht : s.translate c k = some u) (h : s.wakes c)
    (room : 2 ≤ (s.link c).free) :
    deliverTap c p k s = (s.setLink c (((s.link c).tapped p k u).woken
      (s.chanRec c).wakeWindow)).emit (.wakeSignal c) := by
  simp only [deliverTap, ht, offerDown_wakes_room h room]
  refine Eq.trans (b := ((s.setLink c _).setLink c _).emit (.wakeSignal c)) rfl ?_
  rw [State.setLink_setLink]
  simp [Link.tapped, Link.woken, Link.withDown, State.link, State.emit]

theorem deliverTap_wakes_full (ht : s.translate c k = some u) (h : s.wakes c)
    (full : (s.link c).free < 2) :
    deliverTap c p k s = ((latch .holdOverflow s).setLink c
      ((s.link c).woken (s.chanRec c).wakeWindow)).emit (.wakeSignal c) := by
  simp [deliverTap, ht, offerDown_wakes_full h full]

theorem deliverTap_denied (ht : s.translate c k = some u)
    (asleep : (s.link c).state = .suspended) (wanted : (s.chanRec c).wakeOnInput = true)
    (denied : (s.link c).permission = false) :
    deliverTap c p k s = latch .wakeDenied s := by
  simp [deliverTap, ht, offerDown_denied asleep wanted denied]

theorem deliverTap_lost (ht : s.translate c k = some u) (h : (s.link c).state = .detached ∨
    (s.link c).state = .suspended ∧ (s.chanRec c).wakeOnInput = false) :
    deliverTap c p k s = s := by
  simp [deliverTap, ht, offerDown_lost h]

/-- A tap makes no entry and drops none. -/
theorem entries_lateTap (p : Port) (k : Code) (s : State) :
    (lateTap p k s).router.entries = s.router.entries := by
  unfold lateTap
  split
  · rfl
  · unfold deliverTap
    split
    · rfl
    · split <;> rename_i h <;> simpa using congrArg (·.2.router.entries) h.symm

end

/-! ## The expiries (R53, R55) -/

/-- Settles O23: the decision of R12 for the focus channel, then the two halves of the tap. -/
theorem windowExpiries : Obligations.WindowExpiries := by
  refine ⟨fun s => ⟨fun h => ?_, fun k p w h => ?_⟩, fun s => ⟨fun w h => ?_, fun h => ?_⟩⟩
  · change execTapWindowExpiry s = _
    unfold execTapWindowExpiry
    split
    · exact absurd ‹_› (h _ _ _)
    · rfl
  · refine ⟨setAttention .idle (lateTap p k s), by
      change execTapWindowExpiry s = _
      simp [execTapWindowExpiry, h], rfl, entries_lateTap p k s, fun hf => ?_, fun c hf ht => ?_,
      fun c u hf ht => ?_⟩
    · simp [lateTap, hf, setAttention]
    · simp [lateTap, hf, deliverTap, ht, setAttention]
    · have tap : lateTap p k s = deliverTap c p k s := by simp [lateTap, hf]
      rw [tap]
      refine ⟨fun hd canonical => ?_, fun holds room => ?_, fun asleep wanted permitted room => ?_,
        fun attached undeliverable full awake => ?_, fun asleep wanted denied => ?_, fun lost => ?_⟩
      · rw [deliverTap_deliverable ht (State.deliverable_iff.2 hd),
          releaseCode_pressCode_active hd.1 (canonical c)]
        exact ⟨rfl, newSent_eq rfl⟩
      · rw [deliverTap_holds_room ht holds (two_le_free room)]
        exact ⟨rfl, State.link_setLink_same .., fun d hne => State.link_setLink_other _ _ hne.symm⟩
      · rw [deliverTap_wakes_room ht ⟨asleep, wanted, permitted⟩ (two_le_free room)]
        exact ⟨rfl, State.link_setLink_same .., fun d hne => State.link_setLink_other _ _ hne.symm⟩
      · cases hl : (s.link c).state with
        | detached => exact absurd hl attached
        | suspended =>
          obtain ⟨wanted, permitted⟩ := awake hl
          rw [deliverTap_wakes_full ht ⟨hl, wanted, permitted⟩ (free_lt_two full)]
          refine ⟨.trans (congrArg Link.queue (State.link_setLink_same (latch _ s) c _)) rfl, ?_, ?_⟩
          · exact congrArg Router.counts (latch_router s _)
          · exact (congrArg (hasEvent · _) (latch_latch _ s)).trans (by simp [hasEvent_addEvent])
        | waking =>
          rw [deliverTap_holds_full ht (.inl hl) (free_lt_two full)]
          simp [State.link, hasEvent_addEvent]
        | active =>
          have busy : s.serves c = true ∨ (s.link c).queue ≠ [] := by
            by_contra idle
            push Not at idle
            simp [State.deliverable_iff.2 ⟨hl, by simpa using idle⟩] at undeliverable
          rw [deliverTap_holds_full ht (.inr ⟨hl, busy⟩) (free_lt_two full)]
          simp [State.link, hasEvent_addEvent]
      · rw [deliverTap_denied ht asleep wanted denied]
        simp [hasEvent_addEvent]
      · rw [deliverTap_lost ht lost]
        rfl
  · change execArmWindowExpiry s = _
    simp [execArmWindowExpiry, h, setAttention]
  · change execArmWindowExpiry s = _
    unfold execArmWindowExpiry
    split
    · exact absurd ‹_› (h _)
    · rfl

end Sys2Proof.Machine
end

section
/-! Keyboard ports attached and detached (R23, R24): O13. -/

namespace Sys2Proof.Machine

/-! ## What a key-up writes (R34) -/

/-- A change of the key-down table with its counts, of the attention machine, of the links and of the log alone. -/
structure KeysOnly (s t : State) : Prop where
  tables : t.tables = s.tables
  console : t.console = s.console
  focus : t.focus = s.focus
  pointer : t.pointer = s.pointer
  display : t.display = s.display
  player : t.player = s.player
  skipped : t.skipped = s.skipped
  mgmt : t.mgmt = s.mgmt
  store : t.store = s.store
  free : t.free = s.free
  pending : t.pending = s.pending

namespace KeysOnly

variable {s t u : State}

theorem refl (s : State) : KeysOnly s s := by constructor <;> rfl

theorem trans (h : KeysOnly s t) (j : KeysOnly t u) : KeysOnly s u where
  tables := j.tables.trans h.tables
  console := j.console.trans h.console
  focus := j.focus.trans h.focus
  pointer := j.pointer.trans h.pointer
  display := j.display.trans h.display
  player := j.player.trans h.player
  skipped := j.skipped.trans h.skipped
  mgmt := j.mgmt.trans h.mgmt
  store := j.store.trans h.store
  free := j.free.trans h.free
  pending := j.pending.trans h.pending

theorem eq (h : KeysOnly s t) : t = { s with
    router := t.router, attention := t.attention, links := t.links, sent := t.sent } := by
  obtain ⟨tables, console, focus, pointer, display, player, skipped, mgmt, store, free, pending⟩ := h
  cases s
  cases t
  subst_vars
  rfl

theorem tapReleased (s : State) : KeysOnly s (tapReleased s) := by
  unfold Machine.tapReleased
  split
  · constructor <;> rfl
  · exact refl s

theorem keyUp (p : Port) (k : Code) (s : State) : KeysOnly s (keyUp p k s) := by
  have drop : ∀ u, KeysOnly u (u.dropKey p k) := fun u => by constructor <;> rfl
  have contribution : ∀ c t, KeysOnly s (removeContribution c p k t s) := fun c t => by
    constructor <;> simp
  have queued : ∀ c t, KeysOnly s (placeRelease c (.keyUp p k t false) (forgetKey c p k s)) :=
    fun c t => by constructor <;> rfl
  unfold Machine.keyUp
  repeat' split
  · exact refl s
  · exact (drop s).trans (tapReleased _)
  · exact drop s
  · exact drop s
  · exact (queued _ _).trans (drop _)
  · exact (contribution _ _).trans (drop _)

end KeysOnly

/-! ## What a key-up takes back (R34, R38) -/

/-- A DELIVERED target keeps code k down on channel c (R38). -/
def KeyTarget.delivers (c : Chan) (k : Code) (x : KeyTarget) : Bool :=
  x == .channel c (some k) .delivered

/-- A QUEUED target has a place reserved on channel c (R13). -/
def KeyTarget.reserves (c : Chan) : KeyTarget → Bool
  | .channel d (some _) .queued => d == c
  | _ => false

/-- The attention machine after a withheld tap was released (R51). -/
def Attention.released (window : Nat) : Attention → Attention
  | .tapDown k r => .tapUp k r window
  | a => a

theorem Attention.released_released (w : Nat) (a : Attention) :
    (a.released w).released w = a.released w := by cases a <;> rfl

theorem attention_tapReleased (s : State) :
    (tapReleased s).attention = s.attention.released s.tables.desk.tapWindow := by
  unfold tapReleased
  split <;> rename_i h
  · rw [h]
    rfl
  · cases hs : s.attention with
    | tapDown k p => exact absurd hs (h k p)
    | _ => rfl

/-- The counts and the reservation of a channel are the view's. -/
theorem State.view_counts (s : State) (c : Chan) : s.view.counts c = s.counts c := rfl

theorem State.view_reserved (s : State) (c : Chan) : s.view.reserved c = (s.link c).reserved := rfl

theorem counts_removeContribution (c d : Chan) (p : Port) (k t : Code) (s : State) :
    (removeContribution c p k t s).counts d =
      if d = c then countDown t (s.counts c) else s.counts d := by
  have view : (removeContribution c p k t s).view.counts =
      Function.update s.view.counts c (countDown t (s.view.counts c)) := by
    unfold removeContribution
    split
    · rw [view_releaseCode]
      rfl
    · unfold settleKey
      rcases view_placeSettled c (.keyUp p k t true) (lowerCode c t s) with h | ⟨-, h⟩ <;>
        rw [h, view_lowerCode] <;> rfl
  exact (congrFun view d).trans (Function.update_apply ..)

theorem reserved_removeContribution (c d : Chan) (p : Port) (k t : Code) (s : State) :
    ((removeContribution c p k t s).link d).reserved = (s.link d).reserved := by
  have view : (removeContribution c p k t s).view.reserved = s.view.reserved := by
    unfold removeContribution
    split
    · rw [view_releaseCode]
      rfl
    · unfold settleKey
      rcases view_placeSettled c (.keyUp p k t true) (lowerCode c t s) with h | ⟨-, h⟩ <;>
        rw [h, view_lowerCode]
      · rfl
      · exact Function.update_eq_self ..
  exact congrFun view d

/-- What the key-ups of some entries take back: every count falls by those that keep its code down, every reservation by
those that wait in its queue, and a withheld tap is released (R24, R34). -/
structure TakesBack (es : List KeyEntry) (s t : State) : Prop where
  frame : KeysOnly s t
  canonical : CountsCanonical s → CountsCanonical t
  counts : CountsCanonical s → ∀ c k, countOf k (t.counts c) =
    countOf k (s.counts c) - es.countP fun e => e.target.delivers c k
  reserved : ∀ c, (t.link c).reserved =
    (s.link c).reserved - es.countP fun e => e.target.reserves c
  calm : (∀ e ∈ es, e.target ≠ .pendingTap) → t.attention = s.attention
  tap : (∃ e ∈ es, e.target = .pendingTap) →
    t.attention = s.attention.released s.tables.desk.tapWindow

namespace TakesBack

variable {s t u : State} {es fs : List KeyEntry} {p : Port} {k : Code} {x : KeyTarget}

theorem nil (s : State) : TakesBack [] s s :=
  ⟨.refl s, id, by simp, by simp, by simp, by simp⟩

theorem append (h : TakesBack es s t) (j : TakesBack fs t u) : TakesBack (es ++ fs) s u where
  frame := h.frame.trans j.frame
  canonical hs := j.canonical (h.canonical hs)
  counts hs c k := by
    rw [j.counts (h.canonical hs), h.counts hs, List.countP_append, Nat.sub_sub]
  reserved c := by rw [j.reserved, h.reserved, List.countP_append, Nat.sub_sub]
  calm hn := by
    obtain ⟨he, hf⟩ := List.forall_mem_append.1 hn
    exact (j.calm hf).trans (h.calm he)
  tap hx := by
    have window : t.tables.desk.tapWindow = s.tables.desk.tapWindow := by rw [h.frame.tables]
    by_cases he : ∃ e ∈ es, e.target = .pendingTap
    · by_cases hf : ∃ e ∈ fs, e.target = .pendingTap
      · rw [j.tap hf, h.tap he, window, Attention.released_released]
      · rw [j.calm (by simpa using hf), h.tap he]
    · have hf : ∃ e ∈ fs, e.target = .pendingTap := by
        obtain ⟨e, hmem, htap⟩ := hx
        exact ⟨e, (List.mem_append.1 hmem).resolve_left fun hm => he ⟨e, hm, htap⟩, htap⟩
      rw [j.tap hf, h.calm (by simpa using he), window]

/-- A key-up that takes an entry without a count or a place out of the table. -/
theorem idle (frame : KeysOnly s t) (counts : t.router.counts = s.router.counts)
    (links : t.links = s.links) (hd : ∀ c k, x.delivers c k = false)
    (hr : ∀ c, x.reserves c = false) (calm : x ≠ .pendingTap → t.attention = s.attention)
    (tap : x = .pendingTap → t.attention = s.attention.released s.tables.desk.tapWindow) :
    TakesBack [⟨p, k, x⟩] s t where
  frame := frame
  canonical hs c := by simpa [State.counts, counts] using hs c
  counts _ c j := by simp [State.counts, counts, hd]
  reserved c := by simp [State.link, links, hr]
  calm h := calm (h _ (List.mem_singleton.2 rfl))
  tap h := tap (by simpa using h)

theorem keyUp (h : findEntry p k s.router.entries = some ⟨p, k, x⟩) :
    TakesBack [⟨p, k, x⟩] s (keyUp p k s) := by
  have frame := KeysOnly.keyUp p k s
  unfold Machine.keyUp at frame ⊢
  rw [h] at frame ⊢
  match x, frame with
  | .pendingTap, frame =>
    have same : ∀ u, (tapReleased u).router = u.router ∧ (tapReleased u).links = u.links := fun u => by
      unfold tapReleased
      split <;> exact ⟨rfl, rfl⟩
    exact idle frame (by simp [same]; rfl) (by simp [same]) (fun _ _ => rfl) (fun _ => rfl)
      (absurd rfl) fun _ => attention_tapReleased _
  | .consumed, frame =>
    exact idle frame rfl rfl (fun _ _ => rfl) (fun _ => rfl) (fun _ => rfl) nofun
  | .channel _ none _, frame =>
    exact idle frame rfl rfl (fun _ _ => by simp [KeyTarget.delivers]) (fun _ => rfl)
      (fun _ => rfl) nofun
  | .channel c (some t) .queued, frame =>
    refine ⟨frame, id, fun _ d j => by simp [KeyTarget.delivers]; rfl, fun d => ?_, fun _ => rfl,
      by simp⟩
    have view : ((placeRelease c (.keyUp p k t false) (forgetKey c p k s)).dropKey p k).view.reserved
        = Function.update s.view.reserved c (s.view.reserved c - 1) := by
      simp [KeyView.setEntries, KeyView.setQueue]
    refine (congrFun view d).trans ((Function.update_apply ..).trans ?_)
    by_cases hd : d = c
    · simp [hd, KeyTarget.reserves, State.view_reserved]
    · simp [hd, Ne.symm hd, KeyTarget.reserves, State.view_reserved]
  | .channel c (some t) .delivered, frame =>
    have counts : ∀ d, ((removeContribution c p k t s).dropKey p k).counts d =
        if d = c then countDown t (s.counts c) else s.counts d := fun d =>
      counts_removeContribution c d p k t s
    refine ⟨frame, fun hs d => ?_, fun hs d j => ?_, fun d => ?_, fun _ => by simp, by simp⟩
    · rw [counts]
      split
      · exact (hs c).countDown t
      · exact hs d
    · rw [counts]
      by_cases hd : d = c
      · subst hd
        rw [if_pos rfl, countOf_countDown (hs d)]
        by_cases hj : j = t
        · simp [hj, KeyTarget.delivers]
        · simp [hj, Ne.symm hj, KeyTarget.delivers]
      · simp [hd, Ne.symm hd, KeyTarget.delivers]
    · exact (reserved_removeContribution c d p k t s).trans (by simp [KeyTarget.reserves])

/-- The key-ups of entries of one port, one by one. -/
theorem keyUps (hs : Sorted s.router.entries) (hes : ∀ e ∈ es, e ∈ s.router.entries ∧ e.port = p)
    (codes : (es.map (·.code)).Nodup) :
    TakesBack es s ((es.map (·.code)).foldl (fun s k => Machine.keyUp p k s) s) := by
  induction es generalizing s with
  | nil => exact nil s
  | cons e es ih =>
    obtain ⟨⟨he, rfl⟩, hes⟩ := List.forall_mem_cons.1 hes
    obtain ⟨fresh, codes⟩ := List.nodup_cons.1 codes
    have entries := entries_keyUp e.port e.code s
    refine (keyUp (hs.findEntry_of_mem he)).append (ih (entries ▸ hs.drop _ _)
      (fun a ha => ⟨?_, (hes a ha).2⟩) codes)
    rw [entries]
    exact mem_dropEntry.2 ⟨(hes a ha).1, fun h => fresh (List.mem_map.2 ⟨a, ha, h.2⟩)⟩

end TakesBack

/-- The table that key-ups of one port leave. -/
theorem entries_keyUps (p : Port) (ks : List Code) (s : State) :
    (ks.foldl (fun s k => keyUp p k s) s).router.entries =
      s.router.entries.filter fun e => !(e.port == p && ks.contains e.code) := by
  induction ks generalizing s with
  | nil => simp
  | cons k ks ih =>
    rw [List.foldl_cons, ih, entries_keyUp, dropEntry, List.filter_filter]
    refine List.filter_congr fun e _ => ?_
    rw [List.contains_cons, Bool.and_or_distrib_left, Bool.not_or, Bool.and_comm]

/-! ## The ports (R23, R24) -/

theorem setKeyPort_frame (s : State) (p : Port) (k : KeyPort) :
    s.setKeyPort p k = { s with console := (s.setKeyPort p k).console } := by cases p <;> rfl

theorem KeysOnly.withConsole {s u : State} {p : Port} {k : KeyPort}
    (h : KeysOnly (s.setKeyPort p k) u) (con : Console) : { u with console := con } = { s with
      console := con, router := u.router, attention := u.attention, links := u.links,
      sent := u.sent } := by
  conv_lhs => rw [h.eq]
  cases p <;> rfl

theorem State.keyPort_setKeyPort_other (s : State) {p q : Port} (h : q ≠ p) (k : KeyPort) :
    (s.setKeyPort p k).keyPort q = s.keyPort q := by
  rw [State.keyPort_setKeyPort, if_neg h.symm]

theorem State.keyPort_setKeyPort_same (s : State) (p : Port) (k : KeyPort) :
    (s.setKeyPort p k).keyPort p = k := by
  rw [State.keyPort_setKeyPort, if_pos rfl]

theorem attachKeyboard_boot (p : Port) (s : State) : attachKeyboard p true s =
    (s.setKeyPort p ⟨.active, []⟩).emit (.consoleLeds p s.consoleLamps) := by
  cases p <;> rfl

/-- An attach to an ABSENT port (R23), of a boot keyboard and of another device. -/
theorem keyboardPortAttach_absent {p q : Port} (hq : q ≠ p) (s : State) :
    (∃ t, t = attachKeyboard p true s ∧
      t = { s with console := t.console, sent := s.sent ++ [.consoleLeds p s.consoleLamps] } ∧
      t.keyPort p = ⟨.active, []⟩ ∧ t.keyPort q = s.keyPort q ∧ t.console.ptr = s.console.ptr) ∧
    (∃ t, t = attachKeyboard p false s ∧ t = { s with console := t.console } ∧
      t.keyPort p = ⟨.rejected, (s.keyPort p).last⟩ ∧ t.keyPort q = s.keyPort q ∧
      t.console.ptr = s.console.ptr) := by
  refine ⟨⟨_, rfl, ?_⟩, _, rfl, setKeyPort_frame .., s.keyPort_setKeyPort_same ..,
    s.keyPort_setKeyPort_other hq _, s.ptr_setKeyPort ..⟩
  rw [attachKeyboard_boot]
  exact ⟨by cases p <;> rfl, s.keyPort_setKeyPort_same .., s.keyPort_setKeyPort_other hq _,
    s.ptr_setKeyPort ..⟩

/-- The entries of a port. -/
def State.entriesOf (s : State) (p : Port) : List KeyEntry :=
  s.router.entries.filter fun e => e.port == p

theorem mem_entriesOf {s : State} {p : Port} {e : KeyEntry} :
    e ∈ s.entriesOf p ↔ e ∈ s.router.entries ∧ e.port = p := by simp [State.entriesOf]

/-- A detach takes back what the port's entries hold (R24). -/
theorem takesBack_detach {s : State} (sorted : KeyTableSorted s) (p : Port) :
    TakesBack (s.entriesOf p) s ((s.codesOf p).foldl (fun s k => keyUp p k s) s) :=
  .keyUps sorted (fun _ he => mem_entriesOf.1 he) ((pairwise_codesOf sorted p).imp ne_of_lt)

theorem entries_detach (p : Port) (s : State) :
    ((s.codesOf p).foldl (fun s k => keyUp p k s) s).router.entries =
      s.router.entries.filter fun e => e.port != p := by
  rw [entries_keyUps]
  refine List.filter_congr fun e he => ?_
  by_cases hp : e.port = p
  · have : e.code ∈ s.codesOf p := mem_codesOf.2 ⟨e, he, hp, rfl⟩
    simp [hp, this]
  · have : (e.port == p) = false := by simpa using hp
    simp [this, bne]

theorem countP_entriesOf (s : State) (p : Port) (f : KeyTarget → Bool) :
    (s.entriesOf p).countP (fun e => f e.target) =
      s.router.entries.countP fun e => e.port == p && f e.target := by
  rw [State.entriesOf, List.countP_filter]
  exact List.countP_congr fun e _ => by rw [Bool.and_comm]

/-- What a detach of an ACTIVE port leaves beside its entries: the key-ups between two changes of the port alone. -/
structure Detached (p : Port) (s t : State) : Prop where
  frame : t = { s with
    console := t.console, router := t.router, attention := t.attention, links := t.links,
    sent := t.sent }
  port : t.keyPort p = ⟨.absent, []⟩
  other : ∀ q, q ≠ p → t.keyPort q = s.keyPort q
  pointer : t.console.ptr = s.console.ptr
  entries : t.router.entries = s.router.entries.filter fun e => e.port != p
  counts : ∀ c k, countOf k (t.counts c) =
    countOf k (s.counts c) - (s.entriesOf p).countP fun e => e.target.delivers c k
  reserved : ∀ c, (t.link c).reserved =
    (s.link c).reserved - (s.entriesOf p).countP fun e => e.target.reserves c
  calm : (∀ e ∈ s.entriesOf p, e.target ≠ .pendingTap) → t.attention = s.attention
  tap : (∃ e ∈ s.entriesOf p, e.target = .pendingTap) →
    t.attention = s.attention.released s.tables.desk.tapWindow

theorem detached_detachKeyboard {s : State} (sorted : KeyTableSorted s)
    (canonical : CountsCanonical s) (p : Port) : Detached p s (detachKeyboard p s) := by
  unfold detachKeyboard
  dsimp only
  generalize hk : ({ s.keyPort p with state := .absent } : KeyPort) = port
  have entries := entries_detach p (s.setKeyPort p port)
  have back := takesBack_detach (s := s.setKeyPort p port)
    (by simpa [KeyTableSorted] using sorted) p
  generalize ((s.setKeyPort p port).codesOf p).foldl _ _ = u at entries back
  have same : (s.setKeyPort p port).entriesOf p = s.entriesOf p := by simp [State.entriesOf]
  obtain ⟨frame, -, counts, reserved, calm, tap⟩ := back
  rw [same] at counts reserved calm tap
  have canonical : CountsCanonical (s.setKeyPort p port) := by
    simpa [CountsCanonical, State.counts] using canonical
  exact {
    frame := (setKeyPort_frame u p _).trans
      ((frame.withConsole _).trans (by cases p <;> rfl))
    port := u.keyPort_setKeyPort_same ..
    other := fun q hq => (u.keyPort_setKeyPort_other hq _).trans
      ((State.keyPort_congr frame.console q).trans (s.keyPort_setKeyPort_other hq _))
    pointer := (u.ptr_setKeyPort ..).trans
      ((congrArg Console.ptr frame.console).trans (s.ptr_setKeyPort ..))
    entries := by simpa using entries
    counts := by simpa [State.counts] using counts canonical
    reserved := by simpa [State.link] using reserved
    calm := by simpa using calm
    tap := by simpa using tap }

/-- Settles O13: a detach is the key-ups of the port's entries between two changes of the port alone. -/
theorem keyboardPorts : Obligations.KeyboardPorts := by
  refine ⟨fun p q s hq => ⟨fun h b => ?_, fun h => ?_⟩, fun p q s hq sorted canonical =>
    ⟨fun h => ?_, fun h => ?_, fun h => ?_⟩⟩
  · change execKeyboardPortAttach p b s = _
    simp [execKeyboardPortAttach, h]
  · have attach : ∀ b, exec (.keyboardPortAttach p b) s = .next (attachKeyboard p b s) :=
      fun b => if_pos h
    obtain ⟨⟨t, rfl, boot⟩, u, rfl, other⟩ := keyboardPortAttach_absent hq s
    exact ⟨⟨_, attach true, boot⟩, _, attach false, other⟩
  · change execKeyboardPortDetach p s = _
    simp [execKeyboardPortDetach, h]
  · refine ⟨s.setKeyPort p ⟨.absent, (s.keyPort p).last⟩, ?_, setKeyPort_frame ..,
      s.keyPort_setKeyPort_same .., s.keyPort_setKeyPort_other hq _, s.ptr_setKeyPort ..⟩
    change execKeyboardPortDetach p s = _
    simp [execKeyboardPortDetach, h]
  · have run : exec (.keyboardPortDetach p) s = .next (detachKeyboard p s) := by
      change execKeyboardPortDetach p s = _
      simp [execKeyboardPortDetach, h]
    obtain ⟨frame, port, other, pointer, entries, counts, reserved, calm, tap⟩ :=
      detached_detachKeyboard sorted canonical p
    refine ⟨_, run, frame, port, other q hq, pointer, entries, fun c k => ?_, fun c => ?_,
      fun none => calm fun e he => ?_, fun k r ha ⟨e, he, hp, ht⟩ => ?_⟩
    · rw [counts, countP_entriesOf s p (·.delivers c k)]
      rfl
    · rw [reserved, countP_entriesOf s p (·.reserves c)]
      rfl
    · exact none e (mem_entriesOf.1 he).1 (mem_entriesOf.1 he).2
    · rw [tap ⟨e, mem_entriesOf.2 ⟨he, hp⟩, ht⟩, ha]
      rfl

end Sys2Proof.Machine
end

section
/-! Keyboard reports held and accepted, and the events of an accepted one (R25, R26): O14. -/

namespace Sys2Proof.Machine

/-! ## The codes of a report (R25) -/

theorem mem_modifierCodes {b : Byte} {k : Nat} :
    k ∈ modifierCodes b ↔ 224 ≤ k ∧ k ≤ 231 ∧ b.getLsbD (k - 224) = true := by
  have range : k ∈ [224, 225, 226, 227, 228, 229, 230, 231] ↔ 224 ≤ k ∧ k ≤ 231 := by
    simp only [List.mem_cons, List.not_mem_nil, or_false]
    omega
  rw [modifierCodes, List.mem_filter, range, and_assoc]

theorem pairwise_foldr_insertCode (l : List Code) : (l.foldr insertCode []).Pairwise (· < ·) := by
  induction l with
  | nil => exact .nil
  | cons k l ih => exact nodup_insertCode ih

/-- The codes of an accepted report ascend: its slots hold ordinary keys, which come before the modifiers. -/
theorem pairwise_reportCodes {r : KeyboardBytes} (h : reportHeld r = false) :
    (reportCodes r).Pairwise (· < ·) := by
  refine List.pairwise_append.2 ⟨pairwise_foldr_insertCode _, .filter _ (by decide), ?_⟩
  intro a ha b hb
  obtain ⟨slot, nonzero⟩ := List.mem_filter.1 (mem_foldr_insertCode.1 ha)
  have low := (isOrdinary_iff.1 (isOrdinary_of_not_held h a slot (by simpa using nonzero))).2
  exact lt_of_le_of_lt low (lt_of_lt_of_le (by decide) (mem_modifierCodes.1 hb).1)

/-! ## Which reports are held (R26) -/

theorem repeatsCode_eq_false_iff (l : List Code) :
    repeatsCode l = false ↔ (l.filter (· != 0)).Nodup := by
  induction l with
  | nil => simp [repeatsCode]
  | cons k l ih =>
    rw [repeatsCode, Bool.or_eq_false_iff, ih]
    by_cases hk : k = 0
    · simp [hk]
    · simp [hk]

/-- The slots that a report may have for it to be taken as a whole set of keys. -/
theorem reportHeld_eq_false_iff (r : KeyboardBytes) : reportHeld r = false ↔
    ((slotCodes r).filter (· != 0)).Nodup ∧ ∀ k ∈ slotCodes r, k = 0 ∨ 4 ≤ k ∧ k ≤ 164 := by
  rw [reportHeld, Bool.or_eq_false_iff, repeatsCode_eq_false_iff, and_comm, List.any_eq_false]
  refine and_congr_right fun _ => forall₂_congr fun k _ => ?_
  by_cases hk : k = 0
  · simp [hk]
  · simp [hk, isOrdinary_iff]

theorem reportHeld_of_not_whole {r : KeyboardBytes}
    (h : (∃ k ∈ slotCodes r, k = 1 ∨ k = 2 ∨ k = 3) ∨ ¬((slotCodes r).filter (· != 0)).Nodup ∨
      (∃ k ∈ slotCodes r, ¬(k = 0 ∨ (1 ≤ k ∧ k ≤ 3) ∨ (4 ≤ k ∧ k ≤ 164)))) :
    reportHeld r = true := by
  by_contra held
  obtain ⟨nodup, codes⟩ := (reportHeld_eq_false_iff r).1 (by simpa using held)
  rcases h with ⟨k, hk, error⟩ | repeated | ⟨k, hk, other⟩
  · have := codes k hk
    rcases error with rfl | rfl | rfl <;> simp at this
  · exact repeated nodup
  · exact other ((codes k hk).imp_right .inr)

/-! ## The console through the events of a report -/

theorem console_examine (p : Port) (k : Code) (s : State) :
    (examine p k s).2.console = s.console := by
  unfold examine
  split
  · unfold examineIdle
    split
    · rfl
    · exact (Background.chordMatch p k s).console
  · exact (Background.chordMatch p k _).console.trans (console_routeKey _ _ s)
  · split
    · rfl
    · exact (Background.chordMatch p k _).console.trans (Background.lateTap _ _ s).console
  · split
    · exact (Background.chordMatch p k s).console
    · exact (Background.armedKey p k s).console

theorem console_keyDown (p : Port) (k : Code) (s : State) :
    (keyDown p k s).console = s.console := by
  have h := console_examine p k s
  rcases hex : examine p k s with ⟨_ | _ | _, t⟩ <;> rw [hex] at h
  · rw [keyDown_consume hex]
    exact h
  · rw [keyDown_withhold hex]
    exact h
  · rw [keyDown_decline hex]
    exact (console_routeKey p k t).trans h

theorem console_foldl {α : Type} {f : State → α → State} (h : ∀ s a, (f s a).console = s.console)
    (l : List α) (s : State) : (l.foldl f s).console = s.console := by
  induction l generalizing s with
  | nil => rfl
  | cons a l ih => exact (ih _).trans (h s a)

theorem console_takeKeys (p : Port) (ups downs : List Code) (s : State) :
    (takeKeys p ups downs s).console = s.console :=
  (console_foldl (fun s k => console_keyDown p k s) downs _).trans
    (console_foldl (fun s k => (Background.keyUp p k s).console) ups s)

/-- An accepted report leaves its codes as the port's last report (R25). -/
theorem acceptReport_eq {p : Port} {s : State} (h : (s.keyPort p).state = .active)
    (codes : List Code) : acceptReport p codes s =
      (takeKeys p ((s.keyPort p).last.filter fun k => !codes.contains k)
        (codes.filter fun k => !(s.keyPort p).last.contains k) s).setKeyPort p ⟨.active, codes⟩ := by
  unfold acceptReport
  dsimp only
  rw [State.keyPort_congr (console_takeKeys p _ _ s) p, h]

theorem State.setKeyPort_self (s : State) (p : Port) : s.setKeyPort p (s.keyPort p) = s := by
  cases p <;> rfl

/-- An ascending list is known by its codes. -/
theorem eq_filter_not_contains {l m n : List Code} (hl : l.Pairwise (· < ·))
    (hm : m.Pairwise (· < ·)) (h : ∀ k, k ∈ l ↔ k ∈ m ∧ k ∉ n) :
    l = m.filter fun k => !n.contains k :=
  hl.eq_of_mem_iff (hm.filter _) fun k => by simp [h]

/-! ## KEYBOARD_REPORT (R25, R26) -/

section
variable {p : Port} {r : KeyboardBytes} {s : State}

theorem exec_keyboardReport_held (hp : (s.keyPort p).state = .active) (h : reportHeld r = true) :
    exec (.keyboardReport p r) s = .next (latch .rollover s) := by
  change execKeyboardReport p r s = _
  simp [execKeyboardReport, hp, h]

theorem exec_keyboardReport_accepted (hp : (s.keyPort p).state = .active)
    (h : reportHeld r = false) :
    exec (.keyboardReport p r) s = .next (acceptReport p (reportCodes r) s) := by
  change execKeyboardReport p r s = _
  simp [execKeyboardReport, hp, h]

end

/-- Settles O14: a held report is a latching, and an accepted one the key-ups and key-downs of the codes that left and came. -/
theorem keyboardReports : Obligations.KeyboardReports := by
  refine ⟨fun p r s slots hslots hp => ?_, fun p r s ups downs hp held hups hdowns hlast mups mdowns =>
    ⟨_, rfl, ?_, fun same => ?_⟩⟩
  · obtain rfl : slots = slotCodes r := hslots
    refine ⟨fun h => ⟨_, exec_keyboardReport_held hp (reportHeld_of_not_whole h), ?_, latch_mgmt _ s,
      fun c => ?_⟩, fun nodup codes => ?_⟩
    · obtain ⟨flag, l, -, h⟩ := latch_form .rollover s
      rw [h]
      rfl
    · obtain ⟨flag, l, alerts, h⟩ := latch_form .rollover s
      have said : (latch .rollover s).sent = s.sent ++ l := congrArg State.sent h
      rw [newSent_eq said]
      exact alerts.inputReports c
    · have held := (reportHeld_eq_false_iff r).2 ⟨nodup, codes⟩
      refine ⟨_, exec_keyboardReport_accepted hp held, ?_⟩
      rw [acceptReport_eq hp, State.keyPort_setKeyPort_same]
      exact ⟨rfl, pairwise_reportCodes held, fun k => mem_reportCodes.trans
        (or_congr_right mem_modifierCodes)⟩
  · rw [exec_keyboardReport_accepted hp held, acceptReport_eq hp, takeKeys,
      eq_filter_not_contains hups hlast mups,
      eq_filter_not_contains hdowns (pairwise_reportCodes held) mdowns]
  · have none : ∀ l : List Code, (l.filter fun k => !l.contains k) = [] := fun l =>
      List.filter_eq_nil_iff.2 fun k hk => by simp [hk]
    have port : (⟨.active, (s.keyPort p).last⟩ : KeyPort) = s.keyPort p := by rw [← hp]
    rw [exec_keyboardReport_accepted hp held, acceptReport_eq hp, same, none, port]
    exact congrArg Host.Outcome.next (s.setKeyPort_self p)

end Sys2Proof.Machine
end

section
/-! When a hotkey entry matches a key-down (R47), for the held modifier set of R30: O21. -/

namespace Sys2Proof.Machine

/-! ## The held modifier set (R30) -/

/-- A modifier is held when some key of the key-down table is that modifier, on either port and whatever its target. -/
theorem getLsbD_heldModifiers (s : State) {i : Nat} (hi : i < 8) :
    s.heldModifiers.getLsbD i = true ↔ ∃ e ∈ s.router.entries, e.code = 224 + i := by
  rw [State.heldModifiers, getLsbD_modifierByte _ hi, List.contains_iff_mem, List.mem_map]

/-! ## Sets restricted to a mask, and folded sets (R47) -/

/-- Two sets restricted to a mask are equal when they agree on each member of the mask. -/
theorem and_mask_eq_iff {w : Nat} (a b mask : BitVec w) :
    a &&& mask = b &&& mask ↔
      ∀ i, i < w → mask.getLsbD i = true → a.getLsbD i = b.getLsbD i := by
  rw [BitVec.eq_of_getLsbD_eq_iff]
  refine forall₂_congr fun i _ => ?_
  rw [BitVec.getLsbD_and, BitVec.getLsbD_and]
  cases mask.getLsbD i <;> simp

/-- A folded set holds left-hand modifiers alone, each when one of its two sides is in the set. -/
theorem getLsbD_foldSides (m : Byte) (i : Nat) :
    (foldSides m).getLsbD i = (decide (i < 4) && (m.getLsbD i || m.getLsbD (i + 4))) := by
  have leftHand : (0x0F : Byte).getLsbD i = decide (i < 4) := by
    change (BitVec.ofNat 8 (2 ^ 4 - 1)).getLsbD i = _
    rw [BitVec.getLsbD_ofNat, Nat.testBit_two_pow_sub_one, ← Bool.decide_and]
    exact decide_eq_decide.2 (by omega)
  rw [foldSides, BitVec.getLsbD_and, BitVec.getLsbD_or, BitVec.getLsbD_ushiftRight, leftHand,
    Nat.add_comm 4, Bool.and_comm]

/-- Folded sets agree on a folded mask when each pair of sides that meets the mask is held on neither or on both. -/
theorem foldSides_and_mask_eq_iff (a b mask : Byte) :
    foldSides a &&& foldSides mask = foldSides b &&& foldSides mask ↔
      ∀ i, i < 4 → (mask.getLsbD i || mask.getLsbD (i + 4)) = true →
        (a.getLsbD i || a.getLsbD (i + 4)) = (b.getLsbD i || b.getLsbD (i + 4)) := by
  simp only [and_mask_eq_iff, getLsbD_foldSides]
  constructor
  · intro agree i hi inMask
    simpa [hi] using agree i (by omega) (by simp [hi, inMask])
  · intro agree i _ inMask
    obtain ⟨hi, inMask⟩ := Bool.and_eq_true_iff.1 inMask
    rw [agree i (of_decide_eq_true hi) inMask]

/-! ## The conditions of an entry (R47) -/

theorem PortChoice.accepts_iff (c : PortChoice) (p : Port) :
    c.accepts p = true ↔ c = .only p ∨ c = .any := by
  cases c <;> simp [PortChoice.accepts]

theorem modifiersMatch_iff (h : HotkeyEntry) (held : Byte) :
    modifiersMatch h held = true ↔
      (h.sideFold = false → ∀ i, i < 8 → h.mask.getLsbD i = true →
        held.getLsbD i = h.compare.getLsbD i) ∧
      (h.sideFold = true → ∀ i, i < 4 → (h.mask.getLsbD i || h.mask.getLsbD (i + 4)) = true →
        (held.getLsbD i || held.getLsbD (i + 4)) =
          (h.compare.getLsbD i || h.compare.getLsbD (i + 4))) := by
  rw [modifiersMatch, ← and_mask_eq_iff, ← foldSides_and_mask_eq_iff]
  cases h.sideFold <;> simp

theorem entryMatches_iff (h : HotkeyEntry) (p : Port) (k : Code) (held : Byte) :
    entryMatches h p k held = true ↔
      h.enabled = true ∧ (h.port = .only p ∨ h.port = .any) ∧ h.trigger = k ∧
        modifiersMatch h held = true := by
  rw [entryMatches, Bool.and_eq_true, Bool.and_eq_true, Bool.and_eq_true,
    PortChoice.accepts_iff, beq_iff_eq, and_assoc, and_assoc]

/-- Settles O21: the bits of the held set, and the four conditions of an entry with the last read bit by bit. -/
theorem hotkeyMatch : Obligations.HotkeyMatch := by
  intro h p k s
  refine ⟨fun i hi => getLsbD_heldModifiers s hi, ?_⟩
  rw [entryMatches_iff, modifiersMatch_iff]

end Sys2Proof.Machine
end

section
/-! What locks and the single write of the policy protect (R169, R173), and the operations that leave it as it is. -/

namespace Sys2Proof.Machine

/-! ## The charter -/

/-- The tables with their locks, the policy with its mark, and the confirm record, which may come to write either. -/
structure Charter where
  tables : Tables
  locks : Vector Bool 10
  policy : Policy
  written : Bool
  confirm : Option Confirm

def State.charter (s : State) : Charter :=
  ⟨s.tables, s.mgmt.locks, s.mgmt.policy, s.mgmt.policyWritten, s.mgmt.confirm⟩

theorem charter_of_mgmt {s t : State} (ht : t.tables = s.tables) (hm : t.mgmt = s.mgmt) :
    t.charter = s.charter := by
  simp only [State.charter, ht, hm]

@[simp] theorem charter_foldl {α : Type} {f : State → α → State}
    (h : ∀ s a, (f s a).charter = s.charter) (l : List α) (s : State) :
    (l.foldl f s).charter = s.charter := by
  induction l generalizing s with
  | nil => rfl
  | cons a l ih => exact (ih _).trans (h s a)

/-! ## Updates -/

section Updates

variable (s : State) (c : Chan) (p : Port) (k : Code)

@[simp] theorem charter_setLink (l : Link) : (s.setLink c l).charter = s.charter := rfl
@[simp] theorem charter_setFocus (f : Focus) : (s.setFocus f).charter = s.charter := rfl
@[simp] theorem charter_setPointer (q : Pointer) : (s.setPointer q).charter = s.charter := rfl
@[simp] theorem charter_setEntries (es : List KeyEntry) : (s.setEntries es).charter = s.charter := rfl
@[simp] theorem charter_setCounts (m : Counts) : (s.setCounts c m).charter = s.charter := rfl
@[simp] theorem charter_setHeld (v : Vector Bool 5) : (s.setHeld c v).charter = s.charter := rfl
@[simp] theorem charter_setButton (b : Button) (t : Option ButtonTarget) :
    (s.setButton b t).charter = s.charter := rfl
@[simp] theorem charter_setMonitorRun (m : Monitor) (r : MonitorRun) :
    (s.setMonitorRun m r).charter = s.charter := rfl
@[simp] theorem charter_emit (o : Sent) : (s.emit o).charter = s.charter := rfl
@[simp] theorem charter_putKey (t : KeyTarget) : (s.putKey p k t).charter = s.charter := rfl
@[simp] theorem charter_targetKey (t : KeyTarget) : (s.targetKey p k t).charter = s.charter := rfl
@[simp] theorem charter_dropKey : (s.dropKey p k).charter = s.charter := rfl
@[simp] theorem charter_setSlot (r : Option Response) : (s.setSlot c r).charter = s.charter := rfl
@[simp] theorem charter_setHead (h : Head) (d : Option (Nat × Nat)) :
    (s.setHead h d).charter = s.charter := rfl
@[simp] theorem charter_setPtr (q : PointerPort) : (s.setPtr q).charter = s.charter := rfl
@[simp] theorem charter_setKeyPort (q : KeyPort) : (s.setKeyPort p q).charter = s.charter :=
  charter_of_mgmt (by simp) (by simp)
@[simp] theorem charter_setPlayer (pl : Option Player) : (setPlayer pl s).charter = s.charter := rfl
@[simp] theorem charter_beginMacro (pl : Player) : (beginMacro pl s).charter = s.charter := rfl
@[simp] theorem charter_countSkipped : (countSkipped s).charter = s.charter := rfl
@[simp] theorem charter_setAttention (a : Attention) : (setAttention a s).charter = s.charter := rfl
@[simp] theorem charter_setSave (sv : Option Save) : (setSave sv s).charter = s.charter := rfl
@[simp] theorem charter_requestCue (q : Cue) : (requestCue q s).charter = s.charter := rfl
@[simp] theorem charter_cancelDwell : (cancelDwell s).charter = s.charter := rfl
@[simp] theorem charter_setPointerChannel (d : Option Chan) :
    (setPointerChannel d s).charter = s.charter := rfl
@[simp] theorem charter_recordFocus : (recordFocus c s).charter = s.charter := rfl

end Updates

/-! ## Reports and events (R3, R27, R181, R184) -/

section Reports

variable (c : Chan) (s : State)

@[simp] theorem charter_offer (i : Interface) (b : List Byte) :
    (offer c i b s).charter = s.charter := charter_of_mgmt (by simp) (by simp)

@[simp] theorem charter_sendKeyboard : (sendKeyboard c s).charter = s.charter :=
  charter_offer c s _ _

@[simp] theorem charter_sendButtons : (sendButtons c s).charter = s.charter :=
  charter_offer c s _ _

@[simp] theorem charter_driveConsoleLeds : (driveConsoleLeds s).charter = s.charter :=
  charter_of_mgmt (by simp) (by simp)

@[simp] theorem charter_sendAlert (e : Event) : (sendAlert c e s).charter = s.charter :=
  charter_offer c s .management _

@[simp] theorem charter_latch (e : Event) : (latch e s).charter = s.charter := by
  rw [State.charter, latch_mgmt, latch_tables]
  rfl

@[simp] theorem charter_alertWhenActive : (alertWhenActive s).charter = s.charter := by
  unfold alertWhenActive
  split
  · exact charter_sendAlert _ s _
  · rfl

@[simp] theorem charter_alertOnActive : (alertOnActive c s).charter = s.charter := by
  unfold alertOnActive
  split
  · exact charter_alertWhenActive s
  · rfl

@[simp] theorem charter_latchRefusals (g x : Bool) : (latchRefusals g x s).charter = s.charter := by
  unfold latchRefusals
  dsimp only
  (repeat' split) <;> simp

@[simp] theorem charter_respond (tag : Byte) (adjusted : Bool) (r : Reply) :
    (respond c tag adjusted r s).charter = s.charter := charter_offer c _ .management _

@[simp] theorem charter_deferredOutcome (a : Awaits) (r : Reply) :
    (deferredOutcome a c r s).charter = s.charter := by
  unfold deferredOutcome
  (repeat' split) <;> simp

end Reports

/-! ## Keys and the hold queue (R7, R11 to R18, R33 to R37) -/

section Keys

variable (c : Chan) (p : Port) (k : Code) (s : State)

@[simp] theorem charter_wakeRequest : (wakeRequest c s).2.charter = s.charter := by
  unfold wakeRequest
  (repeat' split) <;> simp [signalWake]

@[simp] theorem charter_placeDown (i : HoldItem) : (placeDown c i s).2.charter = s.charter := by
  unfold placeDown
  dsimp only
  split <;> simp

@[simp] theorem charter_offerDown (i : HoldItem) : (offerDown c i s).2.charter = s.charter := by
  unfold offerDown
  (repeat' split) <;> simp [queueDown]

@[simp] theorem charter_pressCode : (pressCode c k s).charter = s.charter :=
  charter_of_mgmt (by simp) (by simp)

@[simp] theorem charter_releaseCode : (releaseCode c k s).charter = s.charter :=
  charter_of_mgmt (by simp) (by simp)

@[simp] theorem charter_lowerAll (ks : List Code) : (lowerAll c ks s).charter = s.charter := by
  rw [lowerAll_frame]
  rfl

@[simp] theorem charter_removeContribution (t : Code) :
    (removeContribution c p k t s).charter = s.charter := charter_of_mgmt (by simp) (by simp)

@[simp] theorem charter_consumeQueued (cause : ConsumeCause) (t : Code) :
    (consumeQueued cause c p k t s).charter = s.charter := by
  cases cause <;> rfl

@[simp] theorem charter_fullStateReports : (fullStateReports c s).charter = s.charter := by
  simp [fullStateReports]

@[simp] theorem charter_drainItem (i : HoldItem) : (drainItem c s i).charter = s.charter :=
  charter_of_mgmt (by simp) (by simp)

@[simp] theorem charter_drainItems : (drainItems c s).charter = s.charter := by
  simp [drainItems, emptyQueue]

@[simp] theorem charter_drain : (drain c s).charter = s.charter := by simp [drain]

@[simp] theorem charter_discardQueue : (discardQueue c s).charter = s.charter := by
  rw [discardQueue, foldl_discardItem_frame]
  rfl

@[simp] theorem charter_keyUp : (keyUp p k s).charter = s.charter :=
  charter_of_mgmt (KeysOnly.keyUp p k s).tables (KeysOnly.keyUp p k s).mgmt

@[simp] theorem charter_routeKey : (routeKey p k s).charter = s.charter := by
  unfold routeKey routeTarget
  split
  · rfl
  · rename_i d _
    split
    · split <;> rfl
    · rename_i t _
      have h := charter_offerDown d s (.keyDown p k t true)
      split <;> rename_i hd <;> rw [hd] at h <;> simpa using h

@[simp] theorem charter_lateTap : (lateTap p k s).charter = s.charter := by
  unfold lateTap deliverTap
  split
  · rfl
  · rename_i d _
    split
    · rfl
    · rename_i t _
      have h := charter_offerDown d s (.keyDown p k t false)
      split <;> rename_i hd <;> rw [hd] at h <;> simpa [placeRelease] using h

@[simp] theorem charter_retargetKey : (retargetKey c p k s).charter = s.charter := by
  unfold retargetKey
  dsimp only
  (repeat' split) <;> simp

@[simp] theorem charter_settleModifier (handover : Bool) (d : Chan) (pk : Port × Code) :
    (settleModifier handover c d s pk).charter = s.charter := by
  unfold settleModifier
  dsimp only
  (repeat' split) <;> simp

end Keys

/-! ## The Macro Player (chapter 05) -/

section Player

variable (c : Chan) (s : State)

@[simp] theorem charter_startMacro (m : Fin 8) : (startMacro m c s).2.charter = s.charter := by
  have h := charter_wakeRequest c s
  unfold startMacro
  repeat' split
  · rfl
  · rfl
  · simp
  · rename_i hw
    rw [hw] at h
    simpa using h
  · rename_i hw
    rw [hw] at h
    simpa using h
  · simp

@[simp] theorem charter_endMacro (e : Event) : (endMacro e s).charter = s.charter := by
  unfold endMacro
  dsimp only
  (repeat' split) <;> simp

@[simp] theorem charter_advance (w i : Nat) : (advance w i s).charter = s.charter := by
  unfold advance
  (repeat' split) <;> simp

@[simp] theorem charter_setTapHalf (h : Option Code) : (setTapHalf h s).charter = s.charter := by
  unfold setTapHalf
  split <;> rfl

@[simp] theorem charter_playerPress (pl : Player) (k : Code) :
    (playerPress pl k s).2.charter = s.charter := by
  unfold playerPress
  repeat' split
  · rfl
  · rfl
  · exact charter_pressCode _ k _

@[simp] theorem charter_playerRelease (pl : Player) (k : Code) :
    (playerRelease pl k s).charter = s.charter := by
  unfold playerRelease
  split
  · exact charter_releaseCode _ k _
  · rfl

@[simp] theorem charter_playStep (pl : Player) (st : MacroStep) :
    (playStep pl st s).charter = s.charter := by
  cases st with
  | press k =>
    have h := charter_playerPress s pl k
    unfold playStep
    dsimp only
    split <;> rename_i hp <;> rw [hp] at h <;> simpa using h
  | release k => simp [playStep]
  | tap k =>
    have h := charter_playerPress s pl k
    unfold playStep
    dsimp only
    split <;> rename_i hp <;> rw [hp] at h <;> simpa using h
  | pause n => simp [playStep]

@[simp] theorem charter_stepExpiry (pl : Player) : (stepExpiry pl s).charter = s.charter := by
  unfold stepExpiry releaseHalf
  (repeat' split) <;> simp

@[simp] theorem charter_playerSuspended : (playerSuspended c s).charter = s.charter := by
  unfold playerSuspended
  dsimp only
  (repeat' split) <;> simp

@[simp] theorem charter_playerResumed : (playerResumed c s).charter = s.charter := by
  unfold playerResumed
  (repeat' split) <;> rfl

@[simp] theorem charter_playerWakeFailed : (playerWakeFailed c s).charter = s.charter := by
  unfold playerWakeFailed
  split <;> simp

@[simp] theorem charter_playerLost : (playerLost c s).charter = s.charter := by
  unfold playerLost
  split <;> simp

end Player

/-! ## Links (chapter 01) -/

section Links

variable (c : Chan) (s : State)

@[simp] theorem charter_ledsIfFocus : (ledsIfFocus c s).charter = s.charter := by
  unfold ledsIfFocus
  split <;> simp

@[simp] theorem charter_loseCandidate : (loseCandidate c s).charter = s.charter := by
  unfold loseCandidate
  (repeat' split) <;> rfl

@[simp] theorem charter_loseAlert : (loseAlert c s).charter = s.charter := by
  unfold loseAlert
  split <;> rfl

@[simp] theorem charter_loseLink : (loseLink c s).charter = s.charter := by
  simp [loseLink, loseKeys, loseButtons]

@[simp] theorem charter_bringUp : (bringUp c s).charter = s.charter := by simp [bringUp]

@[simp] theorem charter_suspendLink : (suspendLink c s).charter = s.charter := by
  simp [suspendLink]

@[simp] theorem charter_resumeLink : (resumeLink c s).charter = s.charter := by
  unfold resumeLink wakeUp
  dsimp only
  split <;> simp

@[simp] theorem charter_failWake : (failWake c s).charter = s.charter := by simp [failWake]

end Links

/-! ## Focus, glide and the desk pointer (chapters 04, 07 and 08) -/

section Pointing

variable (c : Chan) (s : State)

@[simp] theorem charter_settleFrom (cause : Cause) (o : Option Chan) :
    (settleFrom cause o c s).charter = s.charter := by
  cases o <;> simp [settleFrom, settleModifiers]

@[simp] theorem charter_wakeOnFocus : (wakeOnFocus c s).2.charter = s.charter := by
  unfold wakeOnFocus
  split <;> simp

@[simp] theorem charter_focusSteps (cause : Cause) : (focusSteps cause c s).charter = s.charter := by
  simp [focusSteps]

@[simp] theorem charter_glideRequest : (glideRequest c s).charter = s.charter := by
  unfold glideRequest
  split <;> simp

@[simp] theorem charter_completeDwell : (completeDwell s).charter = s.charter := by
  unfold completeDwell
  split <;> simp

@[simp] theorem charter_pointerNotice (new : Option Chan) :
    (pointerNotice new s).charter = s.charter := by
  unfold pointerNotice startDwell
  dsimp only
  (repeat' split) <;> simp

@[simp] theorem charter_pressNotice : (pressNotice c s).charter = s.charter := by
  unfold pressNotice
  (repeat' split) <;> simp

@[simp] theorem charter_deliverMotion (entered : Bool) (wheel pan : Int) :
    (deliverMotion entered wheel pan s).charter = s.charter := charter_of_mgmt (by simp) (by simp)

@[simp] theorem charter_takeOwner : (takeOwner s).2.charter = s.charter := by
  unfold takeOwner
  split <;> simp

@[simp] theorem charter_ownerAndPosition : (ownerAndPosition s).charter = s.charter := by
  unfold ownerAndPosition
  dsimp only
  split <;> simp

@[simp] theorem charter_rehomeOrPark : (rehomeOrPark s).charter = s.charter := by
  unfold rehomeOrPark
  (repeat' split) <;> rfl

@[simp] theorem charter_deskNotice : (deskNotice s).charter = s.charter := by
  unfold deskNotice parkedWhileCaptive
  dsimp only
  (repeat' split) <;> simp

@[simp] theorem charter_moveAndDeliver (sm : Sample) : (moveAndDeliver sm s).charter = s.charter := by
  simp [moveAndDeliver, movePointer]

@[simp] theorem charter_releaseButton (carrier : Option Chan) (b : Button) :
    (releaseButton carrier s b).charter = s.charter := by
  unfold releaseButton
  dsimp only
  repeat' split
  all_goals exact charter_of_mgmt (by simp [forgetButton, settleButton]) (by simp [forgetButton, settleButton])

@[simp] theorem charter_offerButton (report : Bool) (b : Button) :
    (offerButton report c b s).charter = s.charter := by
  have h := charter_offerDown c s (.buttonDown b true)
  unfold offerButton
  split <;> rename_i hd <;> rw [hd] at h
  · dsimp only
    split <;> simpa using h
  all_goals simpa using h

@[simp] theorem charter_pressAbsolute (o : Option Chan) (b : Button) :
    (pressAbsolute o s b).charter = s.charter := by
  cases o <;> simp [pressAbsolute]

@[simp] theorem charter_takeSample (sm : Sample) : (takeSample sm s).charter = s.charter := by
  have absolute : (absoluteSample sm s).charter = s.charter := by
    unfold absoluteSample
    dsimp only
    split <;> simp
  have captive : ∀ f, (captiveSample f sm s).charter = s.charter := fun f => by
    unfold captiveSample captiveReport
    dsimp only
    split <;> simp [pressCaptive]
  unfold takeSample
  repeat' split
  · exact absolute
  · exact captive _
  · exact absolute

@[simp] theorem charter_changeFocus (cause : Cause) :
    (changeFocus cause c s).charter = s.charter := by
  unfold changeFocus
  dsimp only
  split <;> simp

@[simp] theorem charter_requestFocus (cause : Cause) :
    (requestFocus cause c s).2.charter = s.charter := by
  unfold requestFocus
  split <;> simp

end Pointing

/-! ## Layouts, heads and monitors (chapter 06) -/

section Display

variable (m : Monitor) (s : State)

@[simp] theorem charter_settleLayout (l : Layout) (o : Origin) :
    (settleLayout m l o s).charter = s.charter := by
  unfold settleLayout
  dsimp only
  split <;> simp

@[simp] theorem charter_settleWaiting : (settleWaiting m s).charter = s.charter := by
  unfold settleWaiting
  split <;> simp

@[simp] theorem charter_placeLayout (l : Layout) (o : Origin) :
    (placeLayout m l o s).charter = s.charter := by
  unfold placeLayout
  split <;> simp

@[simp] theorem charter_placePart (n : Fin 16) (p : Preset) :
    (placePart n p s m).charter = s.charter := by
  unfold placePart
  split <;> simp

@[simp] theorem charter_recallPreset (n : Fin 16) : (recallPreset n s).2.charter = s.charter := by
  unfold recallPreset
  dsimp only
  split <;> simp

@[simp] theorem charter_setLayoutOn (l : Layout) : (setLayoutOn m l s).2.charter = s.charter := by
  unfold setLayoutOn
  dsimp only
  split <;> simp

@[simp] theorem charter_beginFrame : (beginFrame m s).charter = s.charter := by
  unfold beginFrame fixPicture
  dsimp only
  split <;> simp

@[simp] theorem charter_becomeLive : (becomeLive m s).charter = s.charter := by
  simp [becomeLive]

@[simp] theorem charter_ceaseLive : (ceaseLive m s).charter = s.charter := by
  simp [ceaseLive]

@[simp] theorem charter_changeSignal (h : Head) (d : Option (Nat × Nat)) :
    (changeSignal h d s).charter = s.charter := by
  unfold changeSignal
  dsimp only
  split <;> simp

@[simp] theorem charter_changeSink (connected : Bool) :
    (changeSink m connected s).charter = s.charter := by
  unfold changeSink
  dsimp only
  (repeat' split) <;> simp

/-! ## Table writes (R167) -/

/-- A write puts its tables in place; what it brings about touches nothing else of the charter. -/
theorem charter_applyWrite (t : Table) (T : Tables) :
    (applyWrite t T s).charter = { s.charter with tables := T } := by
  have written : (s.withTables T).charter = { s.charter with tables := T } := rfl
  have captive : ∀ before u, (captiveChanged before u).charter = u.charter := fun before u => by
    unfold captiveChanged
    (repeat' split) <;> simp
  have mismatch : ∀ old u h, (mismatchAt old u h).charter = u.charter := fun old u h => by
    unfold mismatchAt
    dsimp only
    (repeat' split) <;> simp
  have retimed : ∀ u n, (retimeMonitor s u n).charter = u.charter := fun u n => by
    unfold retimeMonitor
    dsimp only
    (repeat' split) <;> simp
  unfold applyWrite
  split
  · unfold applyChannels
    dsimp only
    split <;> simp [captive, written]
  · simp [applyHeads, mismatch, written]
  · simp [applyMonitors, retimed, written]
  · unfold applyDesk
    dsimp only
    split
    · exact written
    · exact (charter_alertWhenActive _).trans written
  · exact written

end Display

/-! ## The store and the desk restart (R171, R179) -/

section Management

variable (s : State)

@[simp] theorem charter_tableWritten (sv : Save) : (tableWritten sv s).charter = s.charter := by
  have stored : (storeTable sv s).charter = s.charter := rfl
  unfold tableWritten
  dsimp only
  split <;> simp [stored]

@[simp] theorem charter_writeFailed (sv : Save) : (writeFailed sv s).charter = s.charter := by
  have unknown : (storeUnknown sv.writing s).charter = s.charter := rfl
  simp [writeFailed, unknown]

@[simp] theorem charter_restartLatch : (restartLatch s).charter = s.charter :=
  charter_latch _ .deskStart

@[simp] theorem charter_restartBlocks : (restartBlocks s).charter = s.charter := by
  have cleared : ∀ u, (dropWaiting (restartFocus (setPlayer none (setAttention .idle
    (clearHeld u))))).charter = u.charter := fun _ => rfl
  simp [restartBlocks, sendEmptyReports, cleared]

@[simp] theorem charter_restartOwner : (restartOwner s).2.charter = s.charter := by
  unfold restartOwner
  dsimp only
  (repeat' split) <;> simp

@[simp] theorem charter_restartNotice (due : Bool) : (restartNotice due s).charter = s.charter := by
  unfold restartNotice
  split <;> simp

end Management

end Sys2Proof.Machine
end

section
/-! Locked tables and a written policy stand through every command but a power-on reset (R169, R173): O53. -/

namespace Sys2Proof.Machine

/-! ## Changes that keep what is locked -/

theorem sameTable_refl (T : Table) (A : Tables) : sameTable T A A := by
  cases T <;> exact rfl

theorem sameTable_trans {T : Table} {A B C : Tables} (h : sameTable T A B) (j : sameTable T B C) :
    sameTable T A C := by
  cases T <;> exact Eq.trans h j

/-- From a state in which the policy is written at most once, a change that leaves such a state and keeps what is locked. -/
def Guards (s t : State) : Prop := PolicyOnce s → PolicyOnce t ∧ LockedKept s t

namespace Guards

variable {s t u : State}

theorem trans (h : Guards s t) (j : Guards t u) : Guards s u := fun hs => by
  obtain ⟨ht, lockedT, policyT⟩ := h hs
  obtain ⟨hu, lockedU, policyU⟩ := j ht
  refine ⟨hu, fun T hT => ?_, fun hw => ?_⟩
  · obtain ⟨keptT, sameT⟩ := lockedT T hT
    obtain ⟨keptU, sameU⟩ := lockedU T keptT
    exact ⟨keptU, sameTable_trans sameT sameU⟩
  · obtain ⟨writtenT, sameT⟩ := policyT hw
    obtain ⟨writtenU, sameU⟩ := policyU writtenT
    exact ⟨writtenU, sameU.trans sameT⟩

/-- A change of nothing but the tables, which leaves the locked ones, and of the confirm record, in which no SET_POLICY comes to
wait once the policy is written. -/
theorem of_tables {T : Tables} {cf : Option Confirm}
    (h : t.charter = { s.charter with tables := T, confirm := cf })
    (tables : ∀ t, s.locked t = true → sameTable t s.tables T)
    (confirm : cf = none ∨ cf = s.mgmt.confirm ∨
      ∀ r, cf = some r → s.mgmt.policyWritten = true → r.kind ≠ .setPolicy) : Guards s t := by
  obtain ⟨ht, hl, hp, hw, hc⟩ := Charter.mk.inj h
  refine fun ⟨unwritten, waits⟩ => ⟨⟨?_, fun written r hr => ?_⟩, fun t' hlock => ⟨?_, ?_⟩, ?_⟩
  · rw [hw, hp]
    exact unwritten
  · rw [hw] at written
    rw [hc] at hr
    rcases confirm with none | same | fresh
    · exact nomatch none.symm.trans hr
    · exact waits written r (same.symm.trans hr)
    · exact fresh r hr written
  · rwa [State.locked, hl]
  · rw [ht]
    exact tables t' hlock
  · rw [hw, hp]
    exact fun written => ⟨written, rfl⟩

theorem of_charter (h : t.charter = s.charter) : Guards s t :=
  of_tables (T := s.tables) (cf := s.mgmt.confirm) h (fun t _ => sameTable_refl t _) (.inr (.inl rfl))

theorem refl (s : State) : Guards s s := of_charter rfl

theorem foldl {α : Type} {f : State → α → State} (h : ∀ s a, Guards s (f s a)) (l : List α)
    (s : State) : Guards s (l.foldl f s) := by
  induction l generalizing s with
  | nil => exact refl s
  | cons a l ih => exact (h s a).trans (ih _)

end Guards

/-! ## Writes, locks and the confirm window (R167, R169, R173 to R176) -/

/-- The records of a written table leave every other table as it was. -/
theorem sameTable_writtenTables {t u : Table} (h : u ≠ t) (pos : Nat) (imgs : List (List Byte))
    (A : Tables) : sameTable u A (writtenTables t pos imgs A).1 := by
  cases t <;> cases u <;> first | exact absurd rfl h | exact rfl

theorem tables_of_applies {t : Table} {f : Frame} {s : State} {T : Tables} {adjusted : Bool}
    (h : checkWrite t f s = .applies T adjusted) :
    ∃ pos imgs, T = (writtenTables t pos imgs s.tables).1 := by
  unfold checkWrite at h
  dsimp only at h
  repeat' split at h
  · cases h
  · obtain ⟨rfl, -⟩ := WriteVerdict.applies.inj h
    exact ⟨_, _, rfl⟩
  · cases h

theorem lockedFor_of_firstFailure {cmd : Command} {c : Chan} {f : Frame} {s : State}
    (h : firstFailure cmd c f s = none) : s.lockedFor cmd f = false := by
  by_contra hl
  unfold firstFailure at h
  rw [Bool.not_eq_false] at hl
  simp only [hl, if_true] at h
  repeat' split at h
  all_goals cases h

/-- A request that passes check 6 writes no locked table (R162). -/
theorem unlocked_of_firstFailure {c : Chan} {f : Frame} {s : State} {t : Table}
    (h : firstFailure .writeTable c f s = none) (ht : tableOfId? f.tableId.toNat = some t) :
    s.locked t = false := by
  simpa [State.lockedFor, ht] using lockedFor_of_firstFailure h

/-- Nor does it ask for a policy once that is written (R162, R173). -/
theorem unwritten_of_firstFailure {c : Chan} {f : Frame} {s : State}
    (h : firstFailure .setPolicy c f s = none) : s.mgmt.policyWritten = false :=
  lockedFor_of_firstFailure h

namespace Guards

variable {s t u : State}

theorem applyWrite {t : Table} {f : Frame} {s : State} {T : Tables} {adjusted : Bool}
    (unlocked : s.locked t = false) (h : checkWrite t f s = .applies T adjusted) :
    Guards s (applyWrite t T s) := by
  obtain ⟨pos, imgs, rfl⟩ := tables_of_applies h
  refine of_tables (cf := s.mgmt.confirm) (charter_applyWrite s t _) (fun u hu => ?_) (.inr (.inl rfl))
  refine sameTable_writtenTables (fun hut => ?_) pos imgs s.tables
  rw [hut, unlocked] at hu
  cases hu

theorem setLock (t : Table) (s : State) : Guards s (setLock t s) := fun hs =>
  ⟨hs, fun u hu => ⟨by
    change nth (put s.mgmt.locks (tableIndex t) true) (tableIndex u) = true
    rw [nth_put]
    split
    · rfl
    · exact hu, sameTable_refl u _⟩, fun hw => ⟨hw, rfl⟩⟩

theorem clearConfirm (s : State) : Guards s (setConfirm none s) :=
  of_tables (T := s.tables) (cf := none) rfl (fun t _ => sameTable_refl t _) (.inl rfl)

/-- A confirm-class request taken into the window; a SET_POLICY only while the policy is unwritten. -/
theorem takeConfirm {kind : ConfirmKind} {s : State}
    (h : kind = .setPolicy → s.mgmt.policyWritten = false) (c : Chan) (f : Frame) :
    Guards s (takeConfirm kind c f s).2 := by
  refine of_tables (T := s.tables) (cf := some ⟨c, kind, f, s.tables.desk.confirmWindow⟩) rfl
    (fun t _ => sameTable_refl t _) (.inr (.inr fun r hr written hk => ?_))
  cases hr
  rw [h hk] at written
  cases written

/-- CONFIRM writes an unlocked AUTHORITY, or a policy that is not written yet (R176). -/
theorem applyConfirmed {cf : Confirm} {s : State} (hc : s.mgmt.confirm = some cf) :
    Guards s (applyConfirmed cf (Machine.setConfirm none s)).2 := by
  have cleared := clearConfirm s
  unfold Machine.applyConfirmed
  repeat' split
  · exact cleared
  · exact cleared
  · rename_i unlocked _ _ _ hw
    exact cleared.trans (applyWrite (by simpa using unlocked) hw)
  · rename_i kind _
    rintro ⟨-, waits⟩
    have unwritten : s.mgmt.policyWritten = false := by
      by_contra written
      exact waits (by simpa using written) cf hc kind
    refine ⟨⟨(nomatch ·), fun _ r hr => nomatch hr⟩, fun t ht => ⟨ht, sameTable_refl t _⟩, ?_⟩
    rw [unwritten]
    exact fun h => nomatch h
  · exact cleared

theorem confirmPending {cf : Confirm} {s : State} (hc : s.mgmt.confirm = some cf) :
    Guards s (confirmPending cf s) :=
  (applyConfirmed hc).trans (of_charter (by simp [Machine.confirmPending]))

theorem declinePending (cf : Confirm) (s : State) : Guards s (declinePending cf s) :=
  (clearConfirm s).trans (of_charter (charter_deferredOutcome _ _ _ _))

theorem expirePending (cf : Confirm) (s : State) : Guards s (expirePending cf s) :=
  (clearConfirm s).trans (of_charter (by simp [Machine.expirePending]))

/-! ## Actions and key-downs (R25, R48 to R65) -/

theorem refuseAction (s : State) : Guards s (refuseAction s) := of_charter (by simp [Machine.refuseAction])

theorem actConfirm (s : State) : Guards s (actConfirm s).2 := by
  unfold Machine.actConfirm
  split
  · exact refl s
  · exact confirmPending (by assumption)

theorem actCancel (s : State) : Guards s (actCancel s).2 := by
  change Guards s (cancelMacro _)
  refine trans ?_ (of_charter (charter_endMacro _ .macroAborted))
  split
  · exact refl s
  · exact declinePending _ s

end Guards

theorem charter_of_requestFocus {cause : Cause} {n : Chan} {s t : State} {v : Verdict}
    (h : requestFocus cause n s = (v, t)) : t.charter = s.charter := by
  have := charter_requestFocus n s cause
  rwa [h] at this

theorem charter_actSelect (arg : Option Chan) (s : State) :
    (actSelect arg s).2.charter = s.charter := by
  unfold actSelect
  repeat' split
  · rfl
  · rfl
  · rfl
  all_goals exact charter_of_requestFocus (by assumption)

theorem charter_actCycle (order : List Chan) (s : State) :
    (actCycle order s).2.charter = s.charter := by
  unfold actCycle
  repeat' split
  · rfl
  · rfl
  all_goals exact charter_of_requestFocus (by assumption)

theorem charter_actPreset (p : Fin 16) (s : State) : (actPreset p s).2.charter = s.charter := by
  have h := charter_recallPreset s p
  unfold actPreset
  split <;> rename_i hr <;> rwa [hr] at h

theorem charter_actWake (arg : Option Chan) (s : State) : (actWake arg s).2.charter = s.charter := by
  unfold actWake
  split
  · rfl
  · rename_i c _
    have h := charter_wakeRequest c s
    split <;> rename_i hr <;> rw [hr] at h <;> simpa using h

theorem charter_actWakeAll (s : State) : (actWakeAll s).2.charter = s.charter := by
  unfold actWakeAll
  split <;> simp

theorem charter_actPlay (m : Fin 8) (s : State) : (actPlay m s).2.charter = s.charter := by
  unfold actPlay
  split
  · rfl
  · rename_i c _
    have h := charter_startMacro c s m
    split <;> rename_i hr <;> rwa [hr] at h

namespace Guards

variable {s t u : State}

theorem act (a : Action) (s : State) : Guards s (act a s).2 := by
  cases a with
  | select c => exact of_charter (charter_actSelect c s)
  | next => exact of_charter (charter_actCycle _ s)
  | previous => exact of_charter (charter_actCycle _ s)
  | pin => exact of_charter (by simp only [Machine.act, actPin]; split <;> simp)
  | glideToggle => exact of_charter (by simp only [Machine.act, actGlideToggle]; split <;> simp)
  | preset p => exact of_charter (charter_actPreset p s)
  | wake c => exact of_charter (charter_actWake c s)
  | wakeAll => exact of_charter (charter_actWakeAll s)
  | play m => exact of_charter (charter_actPlay m s)
  | confirm => exact actConfirm s
  | cancel => exact actCancel s

theorem dispatchAction (a : Action) (s : State) : Guards s (dispatchAction a s) := by
  unfold Machine.dispatchAction
  dsimp only
  split
  · exact (act a s).trans (refuseAction _)
  · exact act a s

theorem chordMatch (p : Port) (k : Code) (s : State) : Guards s (chordMatch p k s).2 := by
  unfold Machine.chordMatch
  split
  · exact dispatchAction _ s
  · exact refl s

theorem armedKey (p : Port) (k : Code) (s : State) : Guards s (armedKey p k s).2 := by
  have calm : Guards s (setAttention .idle s) := of_charter rfl
  unfold Machine.armedKey
  dsimp only
  split
  · exact calm.trans (dispatchAction _ _)
  · exact calm.trans (refuseAction _)

theorem examine (p : Port) (k : Code) (s : State) : Guards s (examine p k s).2 := by
  unfold Machine.examine examineIdle
  repeat' split
  · exact of_charter rfl
  · exact chordMatch p k s
  · exact trans (of_charter (by simp)) (chordMatch p k _)
  · exact of_charter rfl
  · exact trans (of_charter (by simp)) (chordMatch p k _)
  · exact chordMatch p k s
  · exact armedKey p k s

theorem keyDown (p : Port) (k : Code) (s : State) : Guards s (keyDown p k s) := by
  have h := examine p k s
  unfold Machine.keyDown
  split <;> rename_i hex <;> rw [hex] at h <;> exact h.trans (of_charter (by simp))

theorem acceptReport (p : Port) (codes : List Code) (s : State) :
    Guards s (acceptReport p codes s) :=
  (foldl (fun s k => of_charter (charter_keyUp p k s)) _ s).trans
    ((foldl (fun s k => keyDown p k s) _ _).trans (of_charter (charter_setKeyPort _ p _)))

/-! ## Requests (chapter 09) -/

/-- A request whose work is done only where the first checks of R162 pass. -/
theorem request {cmd : Command} {c : Chan} {f : Frame} {work : State → Reply × State} {s : State}
    (h : firstFailure cmd c f s = none → Guards s (work s).2) :
    Guards s (request cmd c f work s) := by
  unfold Machine.request
  repeat' split
  · exact of_charter (by simp)
  · exact (h (by assumption)).trans (of_charter (by simp))
  · exact refl s

theorem requestWhenOk {cmd : Command} {c : Chan} {f : Frame} {work : State → Reply × State}
    {s : State} (h : Guards s (work s).2) :
    Guards s (Machine.request cmd c f (whenOk cmd f work) s) :=
  request fun _ => by
    unfold whenOk
    split
    · exact h
    · exact refl s

theorem tableRequest {cmd : Command} {c : Chan} {f : Frame} {work : Table → State → Reply × State}
    {s : State} (h : ∀ t, Guards s (work t s).2) : Guards s (tableRequest cmd c f work s) :=
  requestWhenOk (by
    split
    · exact refl s
    · exact h _)

theorem takeWriteTable (c : Chan) (f : Frame) (s : State) : Guards s (takeWriteTable c f s) :=
  request fun passed => by
    split
    · exact refl s
    · exact takeConfirm (kind := .authorityWrite) (nomatch ·) c f
    · rename_i t ht
      unfold workWriteTable
      split
      · exact refl s
      · rename_i hw
        exact applyWrite (unlocked_of_firstFailure passed ht) hw

theorem takeDeskRestart (c : Chan) (f : Frame) (s : State) : Guards s (takeDeskRestart c f s) := by
  have declined : Guards s (declineAny s) := by
    unfold declineAny
    split
    · exact refl s
    · exact declinePending _ s
  unfold Machine.takeDeskRestart
  split
  · exact declined.trans (of_charter (by simp [restartAndAnswer, restart]))
  · exact request fun _ => refl s

theorem takeCommand (cmd : Command) (c : Chan) (f : Frame) (s : State) :
    Guards s (takeCommand cmd c f s) := by
  cases cmd with
  | identify => exact requestWhenOk (refl s)
  | readTable =>
    refine tableRequest fun t => ?_
    unfold workReadTable
    split <;> exact refl s
  | writeTable => exact takeWriteTable c f s
  | lockTable => exact tableRequest fun t => setLock t s
  | signTable => exact tableRequest fun _ => refl s
  | saveStore => exact requestWhenOk (of_charter (by simp [workSaveStore]))
  | setPolicy => exact request fun passed => takeConfirm (fun _ => unwritten_of_firstFailure passed) c f
  | select =>
    refine requestWhenOk (of_charter ?_)
    unfold workSelect
    split
    · rfl
    · split <;> exact charter_of_requestFocus (by assumption)
  | recallPreset =>
    refine requestWhenOk (of_charter ?_)
    unfold workRecallPreset
    split <;> simp
  | setLayout =>
    refine requestWhenOk (of_charter ?_)
    unfold workSetLayout
    split <;> simp
  | wake =>
    refine requestWhenOk (of_charter ?_)
    unfold workWake
    split <;> simp
  | playMacro =>
    refine requestWhenOk (of_charter ?_)
    unfold workPlayMacro
    split <;> simp
  | readState => exact requestWhenOk (refl s)
  | readEvents => exact requestWhenOk (of_charter rfl)
  | clearEvents =>
    refine requestWhenOk (of_charter ?_)
    unfold workClearEvents
    split <;> rfl
  | deskRestart => exact takeDeskRestart c f s

theorem takeReport (c : Chan) (report : List Byte) (s : State) :
    Guards s (takeReport c report s) := by
  unfold Machine.takeReport
  repeat' split
  · exact of_charter (by simp)
  · exact of_charter (by simp)
  · exact takeCommand _ c _ s
  · exact refl s

end Guards

/-! ## Every command -/

/-- Whatever state a command ends in, what is locked has been kept. -/
def Guarded (s : State) (r : Host.Outcome State Fault Refusal) : Prop := ∀ t, r = .next t → Guards s t

namespace Guarded

variable {s t : State} {a b : Host.Outcome State Fault Refusal}

theorem next (h : Guards s t) : Guarded s (.next t) := fun u hu => by
  cases hu
  exact h

theorem charter (h : t.charter = s.charter) : Guarded s (.next t) := next (.of_charter h)

theorem same (s : State) : Guarded s (.next s) := next (.refl s)

theorem ite {P : Prop} [Decidable P] (ha : Guarded s a) (hb : Guarded s b) :
    Guarded s (if P then a else b) := by
  split
  · exact ha
  · exact hb

end Guarded

/-- A power-on reset clears the locks and the policy (R21); no other command does. -/
theorem exec_guarded (i : Instr) (s : State) (hi : ∀ d, i ≠ .powerOnReset d) :
    Guarded s (exec i s) := by
  cases i with
  | powerOnReset d => exact absurd rfl (hi d)
  | configure c => exact .ite (.charter (by simp)) (.charter (by simp))
  | setRemoteWake c on => exact .ite (.charter rfl) (.same s)
  | suspend c => exact .ite (.charter (by simp)) (.same s)
  | resume c =>
    change Guarded s (execResume c s)
    unfold execResume
    split
    · exact .charter (charter_resumeLink c s)
    · exact .charter (charter_resumeLink c s)
    · exact .same s
    · exact .same s
  | wakeWindowExpiry c =>
    exact .ite (.ite (.charter rfl) (.charter (by simp))) (.same s)
  | linkLoss c => exact .ite (.same s) (.charter (by simp))
  | ledOutputReport c lamps => exact .ite (.charter (by simp)) (.same s)
  | getReport c asked => exact .charter (by simp)
  | keyboardPortAttach p boot =>
    refine .ite (.charter ?_) (.same s)
    unfold attachKeyboard
    split
    · exact charter_of_mgmt (by simp) (by simp)
    · simp
  | keyboardPortDetach p =>
    change Guarded s (execKeyboardPortDetach p s)
    unfold execKeyboardPortDetach
    split
    · exact .same s
    · exact .charter (by simp)
    · exact .charter (by simp [detachKeyboard])
  | keyboardReport p r =>
    exact .ite (.ite (.charter (by simp)) (.next (.acceptReport p _ s))) (.same s)
  | tapWindowExpiry =>
    change Guarded s (execTapWindowExpiry s)
    unfold execTapWindowExpiry
    split
    · exact .charter (by simp)
    · exact .same s
  | armWindowExpiry =>
    change Guarded s (execArmWindowExpiry s)
    unfold execArmWindowExpiry
    split
    · exact .charter rfl
    · exact .same s
  | cueElementEnd => exact .charter rfl
  | sleepPulse => exact .charter rfl
  | macroStepExpiry =>
    change Guarded s (execMacroStepExpiry s)
    unfold execMacroStepExpiry
    split
    · exact .same s
    · exact .ite (.charter (by simp)) (.same s)
  | pointerPortAttach relative => exact .ite (.charter (by split <;> rfl)) (.same s)
  | pointerPortDetach =>
    change Guarded s (execPointerPortDetach s)
    unfold execPointerPortDetach
    split
    · exact .same s
    · exact .charter rfl
    · exact .charter (by simp [detachPointer])
  | pointerReport bytes => exact .ite (.charter (by simp)) (.same s)
  | dwellExpiry => exact .charter (charter_completeDwell s)
  | headSignalChange h detected => exact .ite (.same s) (.charter (by simp))
  | hotPlugChange m asserted => exact .ite (.same s) (.charter (by simp))
  | frameStart m => exact .ite (.charter (by simp)) (.same s)
  | confirmWindowExpiry =>
    change Guarded s (execConfirmWindowExpiry s)
    unfold execConfirmWindowExpiry
    split
    · exact .same s
    · exact .next (.expirePending _ s)
  | storeTableWritten =>
    change Guarded s (execStoreTableWritten s)
    unfold execStoreTableWritten
    split
    · exact .same s
    · exact .charter (by simp)
  | storeWriteFailed =>
    change Guarded s (execStoreWriteFailed s)
    unfold execStoreWriteFailed
    split
    · exact .same s
    · exact .charter (by simp)
  | unknownCommand c report => exact .next (.takeReport c report s)
  | identify c f => exact .next (.takeCommand .identify c f s)
  | readTable c f => exact .next (.takeCommand .readTable c f s)
  | writeTable c f => exact .next (.takeCommand .writeTable c f s)
  | lockTable c f => exact .next (.takeCommand .lockTable c f s)
  | signTable c f => exact .next (.takeCommand .signTable c f s)
  | saveStore c f => exact .next (.takeCommand .saveStore c f s)
  | setPolicy c f => exact .next (.takeCommand .setPolicy c f s)
  | select c f => exact .next (.takeCommand .select c f s)
  | recallPreset c f => exact .next (.takeCommand .recallPreset c f s)
  | setLayout c f => exact .next (.takeCommand .setLayout c f s)
  | wake c f => exact .next (.takeCommand .wake c f s)
  | playMacro c f => exact .next (.takeCommand .playMacro c f s)
  | readState c f => exact .next (.takeCommand .readState c f s)
  | readEvents c f => exact .next (.takeCommand .readEvents c f s)
  | clearEvents c f => exact .next (.takeCommand .clearEvents c f s)
  | deskRestart c f => exact .next (.takeCommand .deskRestart c f s)

/-- Settles O53: a write passes the lock's check at the request or at CONFIRM, a policy is written
while it is unwritten alone, and every other command but the power-on reset leaves the charter. -/
theorem lockedContentsKept : Obligations.LockedContentsKept := by
  intro s t once noReset hstep
  unfold step at hstep
  split at hstep
  · cases hstep
    exact (Guards.refl s once).2
  · rename_i i rest hp
    have kept : Guards s t := Guards.trans (t := { s with pending := rest }) (.of_charter rfl)
      (exec_guarded i _ (fun d hd => noReset d rest (hd ▸ hp)) t hstep)
    exact (kept once).2

end Sys2Proof.Machine
end

section
/-! Bytes and numbers read back, and pieces of an image read back (chapter 11). -/

namespace Sys2Proof.Machine

/-! ## Bytes and numbers (chapter 11) -/

theorem toNat_byteOf {n : Nat} (h : n < 256) : (byteOf n).toNat = n := by
  simp only [byteOf, BitVec.toNat_ofNat]
  omega

/-- The two bytes of a number, the less significant first. -/
theorem toNat_byteOf_word {n : Nat} (h : n < 65536) :
    (byteOf n).toNat + 256 * (byteOf (n / 256)).toNat = n := by
  simp only [byteOf, BitVec.toNat_ofNat]
  omega

theorem clampTo_of_le {lo hi n : Nat} (hl : lo ≤ n) (hh : n ≤ hi) : clampTo lo hi n = n := by
  simp only [clampTo]
  omega

theorem inRange_iff {lo hi n : Nat} : inRange lo hi n = true ↔ lo ≤ n ∧ n ≤ hi := by simp [inRange]

@[simp] theorem flagOf?_flagByte (b : Bool) : flagOf? (flagByte b).toNat = some b := by
  cases b <;> rfl

@[simp] theorem finOf?_val {n : Nat} (i : Fin n) : finOf? n i.val = some i := by simp [finOf?]

@[simp] theorem oneBased?_succ {n : Nat} (i : Fin n) : oneBased? n (i.val + 1) = some i := by
  simp [oneBased?]

theorem numberOrZero_le {n : Nat} (o : Option (Fin n)) : numberOrZero o ≤ n := by
  cases o with
  | none => exact Nat.zero_le n
  | some i => exact i.isLt

@[simp] theorem optionOf?_numberOrZero {n : Nat} (o : Option (Fin n)) :
    optionOf? n (numberOrZero o) = some o := by
  cases o with
  | none => rfl
  | some i => simp [optionOf?, numberOrZero]

theorem optionOf?_byte {n : Nat} (hn : n < 256) (o : Option (Fin n)) :
    optionOf? n (byteOf (numberOrZero o)).toNat = some o := by
  rw [toNat_byteOf (lt_of_le_of_lt (numberOrZero_le o) hn), optionOf?_numberOrZero]

theorem allZero_replicate (n : Nat) : allZero (List.replicate n 0) = true := by
  simp [allZero]

/-! ## Pieces -/

theorem chunks_flatten_append {w : Nat} {l : List (List Byte)} (h : ∀ x ∈ l, x.length = w)
    (rest : List Byte) : chunks w l.length (l.flatten ++ rest) = l := by
  induction l with
  | nil => rfl
  | cons x l ih =>
    have hx : x.length = w := h x (by simp)
    rw [List.length_cons, chunks, List.flatten_cons, List.append_assoc, List.take_left' hx,
      List.drop_left' hx, ih fun y hy => h y (by simp [hy])]

theorem length_flatten_of_length {w : Nat} {l : List (List Byte)} (h : ∀ x ∈ l, x.length = w) :
    l.flatten.length = l.length * w := by
  induction l with
  | nil => simp
  | cons x l ih =>
    rw [List.flatten_cons, List.length_append, h x (by simp), ih fun y hy => h y (by simp [hy]),
      List.length_cons, Nat.succ_mul, Nat.add_comm]

theorem allSome_map_some {α : Type} (l : List α) : allSome (l.map some) = some l := by
  induction l with
  | nil => rfl
  | cons a l ih => rw [List.map_cons, allSome, ih, Option.map_some]

/-- Pieces that are each read back are read back one by one. -/
theorem allSome_parse {α β : Type} {parse : List Byte → Option β} {image : α → List Byte}
    {read : α → β} {l : List α} (h : ∀ a ∈ l, parse (image a) = some (read a)) :
    allSome ((l.map image).map parse) = some (l.map read) := by
  have each : (l.map image).map parse = (l.map read).map some := by
    rw [List.map_map, List.map_map]
    exact List.map_congr_left h
  rw [each, allSome_map_some]

/-- An image that counts its pieces: a head, the pieces, zeros to its length (R185). -/
def countedImage {α : Type} (size : Nat) (head : List Byte) (image : α → List Byte) (l : List α) :
    List Byte := padTo size (head ++ l.flatMap image)

section Counted

variable {α β : Type} {size w : Nat} {head : List Byte} {image : α → List Byte} {l : List α}

theorem countedImage_eq : countedImage size head image l = head ++ ((l.map image).flatten ++
    List.replicate (size - (head ++ l.flatMap image).length) 0) := by
  rw [countedImage, padTo, List.append_assoc, List.flatMap_def]

theorem length_counted (h : ∀ a ∈ l, (image a).length = w) :
    (l.map image).flatten.length = w * l.length := by
  rw [length_flatten_of_length (w := w) (by simpa using h), List.length_map, Nat.mul_comm]

theorem length_countedImage (h : ∀ a ∈ l, (image a).length = w)
    (fits : head.length + w * l.length ≤ size) : (countedImage size head image l).length = size := by
  rw [countedImage_eq, List.length_append, List.length_append, List.length_replicate,
    List.length_append, List.flatMap_def, length_counted h]
  omega

theorem drop_countedImage : (countedImage size head image l).drop head.length =
    (l.map image).flatten ++ List.replicate (size - (head ++ l.flatMap image).length) 0 := by
  rw [countedImage_eq, List.drop_left]

theorem allZero_countedImage (h : ∀ a ∈ l, (image a).length = w) :
    allZero ((countedImage size head image l).drop (head.length + w * l.length)) = true := by
  rw [← List.drop_drop, drop_countedImage, List.drop_left' (length_counted h), allZero_replicate]

/-- The pieces of a counted image, each read back. -/
theorem allSome_countedImage {parse : List Byte → Option β} {read : α → β}
    (h : ∀ a ∈ l, (image a).length = w) (hp : ∀ a ∈ l, parse (image a) = some (read a)) :
    allSome ((chunks w l.length ((countedImage size head image l).drop head.length)).map parse) =
      some (l.map read) := by
  have pieces := chunks_flatten_append (w := w) (l := l.map image) (by simpa using h)
  rw [List.length_map] at pieces
  rw [drop_countedImage, pieces, allSome_parse hp]

end Counted

/-! ## Records of fixed fields (R1, R44, R100, R104, R130, R163) -/

theorem length_channelImage (r : ChannelRec) : (channelImage r).length = 10 := rfl

theorem length_authorityImage (a : Fin 4) : (authorityImage a).length = 1 := rfl

theorem length_headImage (r : HeadRec) : (headImage r).length = 9 := rfl

theorem length_monitorImage (r : MonitorRec) : (monitorImage r).length = 10 := rfl

theorem length_hotkeyImage (h : HotkeyEntry) : (hotkeyImage h).length = 9 := rfl

theorem length_ballisticsImage (b : Ballistics) : (ballisticsImage b).length = 7 := rfl

/-- The four flags of a CHANNELS record in its first byte (11.4). -/
def flagNumber (a b c d : Bool) : Nat := a.toNat + 2 * b.toNat + 4 * c.toNat + 8 * d.toNat

theorem flagNumber_bits (a b c d : Bool) : flagNumber a b c d < 16 ∧
    (flagNumber a b c d).testBit 0 = a ∧ (flagNumber a b c d).testBit 1 = b ∧
    (flagNumber a b c d).testBit 2 = c ∧ (flagNumber a b c d).testBit 3 = d := by
  revert a b c d
  decide

theorem byteAt_channelFlags (r : ChannelRec) : byteAt (channelImage r) 0 =
    flagNumber r.inCycle (r.pointerMode == .relative) r.wakeOnInput r.wakeOnFocus := by
  obtain ⟨inCycle, mode, _, _, onInput, onFocus, _, _, _, _⟩ := r
  cases inCycle <;> cases mode <;> cases onInput <;> cases onFocus <;> rfl

theorem parseChannel_channelImage {r : ChannelRec} (h : r.InRange) :
    parseChannel (channelImage r) = some (r, false) := by
  obtain ⟨tries1, tries4, window100, window2000, width2, width, height2, height⟩ := h
  obtain ⟨lt, bit0, bit1, bit2, bit3⟩ :=
    flagNumber_bits r.inCycle (r.pointerMode == .relative) r.wakeOnInput r.wakeOnFocus
  have group : byteAt (channelImage r) 1 = r.group.val := toNat_byteOf (by omega)
  have keymap : byteAt (channelImage r) 2 = r.keymap.val := toNat_byteOf (by omega)
  have tries : byteAt (channelImage r) 3 = r.wakeTries := toNat_byteOf (by omega)
  have window : wordAt (channelImage r) 4 = r.wakeWindow := toNat_byteOf_word (by omega)
  have wide : wordAt (channelImage r) 6 = r.width := toNat_byteOf_word (by omega)
  have high : wordAt (channelImage r) 8 = r.height := toNat_byteOf_word (by omega)
  have mode : (if r.pointerMode = .relative then PointerMode.relative else .absolute) =
      r.pointerMode := by
    cases r.pointerMode <;> rfl
  simp [parseChannel, byteAt_channelFlags, group, keymap, tries, window, wide, high, lt, bit0, bit1,
    bit2, bit3, inRange_iff, clampTo_of_le, tries1, tries4, window100, window2000, width2, width,
    height2, height, mode]

theorem parseAuthority_authorityImage (a : Fin 4) :
    parseAuthority (authorityImage a) = some (a, false) := by
  have floor : byteAt (authorityImage a) 0 = a.val := toNat_byteOf (by omega)
  simp [parseAuthority, floor]

theorem parseHead_headImage {r : HeadRec} (h : r.InRange) :
    parseHead (headImage r) = some (r, false) := by
  obtain ⟨width1, width, height1, height, ox, oy⟩ := h
  have owner : optionOf? 8 (byteAt (headImage r) 0) = some r.owner := optionOf?_byte (by omega) _
  have wide : wordAt (headImage r) 1 = r.width := toNat_byteOf_word (by omega)
  have high : wordAt (headImage r) 3 = r.height := toNat_byteOf_word (by omega)
  have left : wordAt (headImage r) 5 = r.ox := toNat_byteOf_word (by omega)
  have top : wordAt (headImage r) 7 = r.oy := toNat_byteOf_word (by omega)
  simp [parseHead, owner, wide, high, left, top, inRange_iff, width1, width, height1, height, ox, oy]

theorem parseMonitor_monitorImage {r : MonitorRec} (h : r.InRange) :
    parseMonitor (monitorImage r) = some (r, false) := by
  obtain ⟨hx, hy, width1, width, height1, height, right, bottom, refresh24, refresh144⟩ := h
  have enabled : flagOf? (byteAt (monitorImage r) 0) = some r.enabled := flagOf?_flagByte _
  have left : wordAt (monitorImage r) 1 = r.x := toNat_byteOf_word (by omega)
  have top : wordAt (monitorImage r) 3 = r.y := toNat_byteOf_word (by omega)
  have wide : wordAt (monitorImage r) 5 = r.width := toNat_byteOf_word (by omega)
  have high : wordAt (monitorImage r) 7 = r.height := toNat_byteOf_word (by omega)
  have refresh : byteAt (monitorImage r) 9 = r.refresh := toNat_byteOf (by omega)
  simp [parseMonitor, enabled, left, top, wide, high, refresh, inRange_iff, clampTo_of_le, hx, hy,
    width1, width, height1, height, right, bottom, refresh24, refresh144]

theorem lt_of_isOrdinary {k : Nat} (h : isOrdinary k = true) : k < 256 := by
  have := isOrdinary_iff.1 h
  omega

theorem actionOf?_actionCode (a : Action) : (actionCode a).1 < 256 ∧ (actionCode a).2 < 256 ∧
    actionOf? (actionCode a).1 (actionCode a).2 = some a := by
  have chan : ∀ c : Option Chan, numberOrZero c < 256 := fun c =>
    lt_of_le_of_lt (numberOrZero_le c) (by omega)
  cases a with
  | select c => exact ⟨by simp [actionCode], chan c, by simp [actionCode, actionOf?]⟩
  | wake c => exact ⟨by simp [actionCode], chan c, by simp [actionCode, actionOf?]⟩
  | preset p => exact ⟨by simp [actionCode], by simp only [actionCode]; omega, by simp [actionCode, actionOf?]⟩
  | play m => exact ⟨by simp [actionCode], by simp only [actionCode]; omega, by simp [actionCode, actionOf?]⟩
  | _ => exact ⟨by simp [actionCode], by simp [actionCode], rfl⟩

theorem parseHotkey_hotkeyImage {h : HotkeyEntry} (hr : h.InRange) :
    parseHotkey (hotkeyImage h) = some (h, false) := by
  obtain ⟨codeLt, argLt, action⟩ := actionOf?_actionCode h.action
  have enabled : flagOf? (byteAt (hotkeyImage h) 0) = some h.enabled := flagOf?_flagByte _
  have kind : kindOf? (byteAt (hotkeyImage h) 1) = some h.kind := by
    change kindOf? (kindByte h.kind).toNat = _
    cases h.kind <;> rfl
  have port : portOf? (byteAt (hotkeyImage h) 2) = some h.port := by
    change portOf? (portByte h.port).toNat = _
    rcases h.port with (_ | _) | _ <;> rfl
  have trigger : byteAt (hotkeyImage h) 3 = h.trigger := toNat_byteOf (lt_of_isOrdinary hr)
  have fold : flagOf? (byteAt (hotkeyImage h) 6) = some h.sideFold := flagOf?_flagByte _
  have code : byteAt (hotkeyImage h) 7 = (actionCode h.action).1 := toNat_byteOf codeLt
  have arg : byteAt (hotkeyImage h) 8 = (actionCode h.action).2 := toNat_byteOf argLt
  have ordinary : isOrdinary h.trigger = true := hr
  rw [parseHotkey, enabled, kind, port, fold, code, arg, action, trigger]
  simp only [ordinary, if_true]
  rfl

theorem parseBallistics_ballisticsImage {b : Ballistics} (h : b.InRange) :
    parseBallistics (ballisticsImage b) = some (b, false) := by
  obtain ⟨g016, g0, vb, k, gmaxLow, gmax⟩ := h
  have first : wordAt (ballisticsImage b) 0 = b.g0 := toNat_byteOf_word (by omega)
  have base : byteAt (ballisticsImage b) 2 = b.vb := toNat_byteOf (by omega)
  have slope : wordAt (ballisticsImage b) 3 = b.k := toNat_byteOf_word (by omega)
  have most : wordAt (ballisticsImage b) 5 = b.gmax := toNat_byteOf_word (by omega)
  simp [parseBallistics, first, base, slope, most, clampTo_of_le, g016, g0, vb, k, gmaxLow, gmax]

end Sys2Proof.Machine
end

section
/-! Layouts, presets, keymaps, key sequences and the DESK record read back from their images (R31, R86, R107, R113, R168). -/

namespace Sys2Proof.Machine

/-! ## Layouts (R107) -/

theorem rectAt_first {r : Rect} (h : rectInBounds r = true) (rest : List Byte) :
    rectAt (rectImage r ++ rest) 0 = r := by
  simp only [rectInBounds, Bool.and_eq_true, decide_eq_true_eq] at h
  have x : wordAt (rectImage r ++ rest) 0 = r.x := toNat_byteOf_word (by omega)
  have y : wordAt (rectImage r ++ rest) 2 = r.y := toNat_byteOf_word (by omega)
  have w : wordAt (rectImage r ++ rest) 4 = r.w := toNat_byteOf_word (by omega)
  have h : wordAt (rectImage r ++ rest) 6 = r.h := toNat_byteOf_word (by omega)
  simp only [rectAt, x, y, w, h]

/-- A rectangle that stands behind another and one byte, as the source of a tile does (11.4). -/
theorem rectAt_second {r : Rect} (h : rectInBounds r = true) (q : Rect) (b : Byte) :
    rectAt (rectImage q ++ b :: rectImage r) 9 = r := by
  have first := rectAt_first h []
  rw [List.append_nil] at first
  exact first

theorem length_tileImage (t : Tile) : (tileImage t).length = 17 := by
  unfold tileImage
  split <;> rfl

theorem parseTile_tileImage {t : Tile} (h : tileWellFormed t = true) :
    parseTile (tileImage t) = some t := by
  obtain ⟨r, content⟩ := t
  cases content with
  | none =>
    have rect : rectInBounds r = true := by simpa [tileWellFormed] using h
    have blank : byteAt (tileImage ⟨r, none⟩) 8 = 0 := rfl
    have zeros : allZero (slice (tileImage ⟨r, none⟩) 9 8) = true := rfl
    have place : rectAt (tileImage ⟨r, none⟩) 0 = r := rectAt_first rect _
    simp [parseTile, blank, zeros, place]
  | some v =>
    obtain ⟨rect, source⟩ : rectInBounds r = true ∧ rectInBounds v.source = true := by
      simpa [tileWellFormed] using h
    have head : byteAt (tileImage ⟨r, some v⟩) 8 = v.head.val + 1 := toNat_byteOf (by omega)
    have place : rectAt (tileImage ⟨r, some v⟩) 0 = r := rectAt_first rect _
    have shown : rectAt (tileImage ⟨r, some v⟩) 9 = v.source := rectAt_second source _ _
    simp [parseTile, head, place, shown]

theorem layoutImage_eq (l : Layout) :
    layoutImage l = countedImage 69 [byteOf l.length] tileImage l := rfl

/-- A well-formed layout has one to four tiles, each well formed (R107). -/
theorem tiles_of_wellFormed {l : Layout} (h : layoutWellFormed l = true) :
    1 ≤ l.length ∧ l.length ≤ 4 ∧ ∀ t ∈ l, tileWellFormed t = true := by
  simp only [layoutWellFormed, Bool.and_eq_true, inRange_iff, List.all_eq_true] at h
  obtain ⟨⟨⟨low, high⟩, tiles⟩, -⟩ := h
  exact ⟨low, high, tiles⟩

theorem length_layoutImage {l : Layout} (h : layoutWellFormed l = true) :
    (layoutImage l).length = 69 := by
  obtain ⟨-, high, -⟩ := tiles_of_wellFormed h
  rw [layoutImage_eq]
  exact length_countedImage (fun t _ => length_tileImage t)
    (by rw [List.length_singleton]; omega)

theorem parseLayout_layoutImage {l : Layout} (h : layoutWellFormed l = true) :
    parseLayout (layoutImage l) = some l := by
  obtain ⟨low, high, tiles⟩ := tiles_of_wellFormed h
  have count : byteAt (layoutImage l) 0 = l.length := toNat_byteOf (by omega)
  have zeros : allZero ((layoutImage l).drop (1 + 17 * l.length)) = true :=
    allZero_countedImage (head := [byteOf l.length]) fun t _ => length_tileImage t
  have read : allSome ((chunks 17 l.length ((layoutImage l).drop 1)).map parseTile) = some l := by
    have each := allSome_countedImage (size := 69) (head := [byteOf l.length]) (read := id)
      (fun t _ => length_tileImage t) fun t ht => parseTile_tileImage (tiles t ht)
    rwa [List.map_id] at each
  unfold parseLayout
  dsimp only
  rw [count, zeros, read]
  simp [inRange_iff, low, high, h]

/-! ## Presets (R113) -/

theorem length_partImage {part : Option Layout} (h : ∀ l, part = some l → layoutWellFormed l = true) :
    (partImage part).length = 70 := by
  cases part with
  | none => rfl
  | some l => rw [partImage, List.length_cons, length_layoutImage (h l rfl)]

theorem parsePart_partImage {part : Option Layout}
    (h : ∀ l, part = some l → layoutWellFormed l = true) : parsePart (partImage part) = some part := by
  cases part with
  | none => rfl
  | some l =>
    change (parseLayout (layoutImage l)).map some = some (some l)
    rw [parseLayout_layoutImage (h l rfl), Option.map_some]

/-- The parts of a preset that is in its range. -/
theorem Preset.InRange.part {p : Preset} (h : p.InRange) {part : Option Layout}
    (hp : part ∈ p.toList) : ∀ l, part = some l → layoutWellFormed l = true := by
  obtain ⟨i, hi, rfl⟩ := List.mem_iff_getElem.1 hp
  have lt : i < 6 := by simpa using hi
  exact fun l hl => h ⟨i, lt⟩ l (by simpa [nth] using hl)

theorem length_presetImage {p : Preset} (h : p.InRange) : (presetImage p).length = 420 := by
  rw [presetImage, List.flatMap_def, length_flatten_of_length (w := 70) (fun x hx => ?_)]
  · simp
  · obtain ⟨part, hp, rfl⟩ := List.mem_map.1 hx
    exact length_partImage (h.part hp)

theorem parsePreset_presetImage {p : Preset} (h : p.InRange) :
    parsePreset (presetImage p) = some (p, false) := by
  have pieces : chunks 70 6 (presetImage p) = p.toList.map partImage := by
    have cut := chunks_flatten_append (w := 70) (l := p.toList.map partImage) (fun x hx => by
      obtain ⟨part, hp, rfl⟩ := List.mem_map.1 hx
      exact length_partImage (h.part hp)) []
    rwa [List.append_nil, List.length_map, Vector.length_toList, ← List.flatMap_def] at cut
  have parts : (p.toList.map partImage).map parsePart = p.toList.map some := by
    rw [List.map_map]
    exact List.map_congr_left fun part hp => parsePart_partImage (h.part hp)
  rw [parsePreset, pieces, parts]
  obtain ⟨⟨l⟩, hl⟩ := p
  match l, hl with
  | [_, _, _, _, _, _], _ => rfl

/-! ## Keymaps (R31) -/

theorem isKeyCode_pos_lt {k : Nat} (h : isKeyCode k = true) : 0 < k ∧ k < 256 := by
  simp only [isKeyCode, Bool.or_eq_true, isOrdinary_iff, isModifier_iff] at h
  omega

/-- The two bytes of a pair (11.4). -/
def pairImage (p : Code × Option Code) : List Byte := [byteOf p.1, byteOf (p.2.getD 0)]

theorem keymapImage_eq (km : Keymap) :
    keymapImage km = countedImage 129 [byteOf km.length] pairImage km := rfl

theorem parsePair_pairImage {p : Code × Option Code} (h : isKeyCode p.1 = true ∧
    ∀ t, p.2 = some t → isKeyCode t = true ∧ isModifier p.1 = isModifier t) :
    parsePair (pairImage p) = some p := by
  obtain ⟨a, target⟩ := p
  obtain ⟨ha, hb⟩ := h
  have source : byteAt (pairImage (a, target)) 0 = a := toNat_byteOf (isKeyCode_pos_lt ha).2
  cases target with
  | none =>
    have blocked : byteAt (pairImage (a, none)) 1 = 0 := rfl
    simp [parsePair, source, blocked, show isKeyCode a = true from ha]
  | some b =>
    obtain ⟨key, same⟩ := hb b rfl
    obtain ⟨pos, lt⟩ := isKeyCode_pos_lt key
    have goal : byteAt (pairImage (a, some b)) 1 = b := toNat_byteOf lt
    simp [parsePair, source, goal, show isKeyCode a = true from ha, key, pos.ne',
      show isModifier a = isModifier b from same]

theorem insertPair_of_lt {p : Code × Option Code} {km : Keymap} (h : ∀ q ∈ km, p.1 < q.1) :
    insertPair p km = some (p :: km) := by
  cases km with
  | nil => rfl
  | cons q km => rw [insertPair, if_pos (h q (by simp))]

theorem sortPairs_of_sorted {km : Keymap} (h : km.Pairwise fun a b => a.1 < b.1) :
    sortPairs km = some km := by
  induction km with
  | nil => rfl
  | cons p km ih =>
    obtain ⟨first, rest⟩ := List.pairwise_cons.1 h
    rw [sortPairs, ih rest, Option.bind_some, insertPair_of_lt first]

theorem length_keymapImage {km : Keymap} (h : km.InRange) : (keymapImage km).length = 129 := by
  obtain ⟨count, -⟩ := h
  rw [keymapImage_eq]
  exact length_countedImage (w := 2) (fun _ _ => rfl) (by rw [List.length_singleton]; omega)

theorem parseKeymap_keymapImage {km : Keymap} (h : km.InRange) :
    parseKeymap (keymapImage km) = some (km, false) := by
  obtain ⟨most, sorted, pairs⟩ := h
  have count : byteAt (keymapImage km) 0 = km.length := toNat_byteOf (by omega)
  have zeros : allZero ((keymapImage km).drop (1 + 2 * km.length)) = true :=
    allZero_countedImage (w := 2) (head := [byteOf km.length]) (image := pairImage) fun _ _ => rfl
  have read : allSome ((chunks 2 km.length ((keymapImage km).drop 1)).map parsePair) = some km := by
    have each := allSome_countedImage (w := 2) (size := 129) (head := [byteOf km.length])
      (image := pairImage) (read := id) (fun _ _ => rfl) fun p hp => parsePair_pairImage (pairs p hp)
    rwa [List.map_id] at each
  unfold parseKeymap
  dsimp only
  rw [count, zeros, read]
  simp [most, sortPairs_of_sorted sorted]

/-! ## Key sequences (R85, R86) -/

theorem length_stepImage (st : MacroStep) : (stepImage st).length = 3 := by cases st <;> rfl

theorem parseStep_stepImage {st : MacroStep} (h : st.InRange) :
    parseStep (stepImage st) = some (st, false) := by
  have key : ∀ k, isKeyCode k = true → ∀ b, wordAt (b :: word16 k) 1 = k := fun k hk b =>
    toNat_byteOf_word (lt_trans (isKeyCode_pos_lt hk).2 (by decide))
  cases st with
  | pause n =>
    have le : n ≤ 2000 := h
    have wait : wordAt (stepImage (.pause n)) 1 = n := toNat_byteOf_word (by omega)
    have code : byteAt (stepImage (.pause n)) 0 = 4 := rfl
    simp [parseStep, wait, code, le]
  | press k =>
    have hk : isKeyCode k = true := h
    have code : byteAt (stepImage (.press k)) 0 = 1 := rfl
    have operand : wordAt (stepImage (.press k)) 1 = k := key k hk _
    simp [parseStep, operand, code, hk]
  | release k =>
    have hk : isKeyCode k = true := h
    have code : byteAt (stepImage (.release k)) 0 = 2 := rfl
    have operand : wordAt (stepImage (.release k)) 1 = k := key k hk _
    simp [parseStep, operand, code, hk]
  | tap k =>
    have hk : isKeyCode k = true := h
    have code : byteAt (stepImage (.tap k)) 0 = 3 := rfl
    have operand : wordAt (stepImage (.tap k)) 1 = k := key k hk _
    simp [parseStep, operand, code, hk]

theorem macroImage_eq (m : MacroRec) : macroImage m =
    countedImage 194 [byteOf m.interval, byteOf m.steps.length] stepImage m.steps := rfl

theorem length_macroImage {m : MacroRec} (h : m.InRange) : (macroImage m).length = 194 := by
  obtain ⟨-, -, -, count, -⟩ := h
  rw [macroImage_eq]
  exact length_countedImage (fun st _ => length_stepImage st)
    (by rw [List.length_cons, List.length_singleton]; omega)

theorem parseMacro_macroImage {m : MacroRec} (h : m.InRange) :
    parseMacro (macroImage m) = some (m, false) := by
  obtain ⟨interval1, interval50, steps1, steps64, steps⟩ := h
  have interval : byteAt (macroImage m) 0 = m.interval := toNat_byteOf (by omega)
  have count : byteAt (macroImage m) 1 = m.steps.length := toNat_byteOf (by omega)
  have zeros : allZero ((macroImage m).drop (2 + 3 * m.steps.length)) = true :=
    allZero_countedImage (head := [byteOf m.interval, byteOf m.steps.length])
      fun st _ => length_stepImage st
  have read : allSome ((chunks 3 m.steps.length ((macroImage m).drop 2)).map parseStep) =
      some (m.steps.map fun st => (st, false)) :=
    allSome_countedImage (size := 194) (head := [byteOf m.interval, byteOf m.steps.length])
      (fun st _ => length_stepImage st) fun st hst => parseStep_stepImage (steps st hst)
  simp [parseMacro, interval, count, zeros, read, inRange_iff, clampTo_of_le, interval1, interval50,
    steps1, steps64, Function.comp_def]

/-! ## The DESK record (R168, R182) -/

theorem summarySlotOf?_byte (e : Option Event) :
    summarySlotOf? (summarySlotByte e).toNat = some e := by
  rcases e with _ | e
  · rfl
  · cases e <;> rfl

theorem toNat_lt_of_bit23 {es : EventSet} (h : es.getLsbD 23 = false) : es.toNat < 2 ^ 23 := by
  have lt := es.isLt
  simp only [BitVec.getLsbD, Nat.testBit_eq_decide_div_mod_eq, decide_eq_false_iff_not] at h
  omega

/-- An event set is read back from its three bytes, wherever they stand (R185). -/
theorem eventSetAt?_bytes {es : EventSet} (h : es.getLsbD 23 = false) {bs : List Byte} {i : Nat}
    (low : byteAt bs i = (byteOf es.toNat).toNat)
    (mid : byteAt bs (i + 1) = (byteOf (es.toNat / 256)).toNat)
    (high : byteAt bs (i + 2) = (byteOf (es.toNat / 65536)).toNat) : eventSetAt? bs i = some es := by
  have lt := toNat_lt_of_bit23 h
  have value : byteAt bs i + 256 * byteAt bs (i + 1) + 65536 * byteAt bs (i + 2) = es.toNat := by
    simp only [low, mid, high, byteOf, BitVec.toNat_ofNat]
    omega
  have small : byteAt bs (i + 2) < 128 := by
    simp only [high, byteOf, BitVec.toNat_ofNat]
    omega
  rw [eventSetAt?, if_pos small, value, BitVec.ofNat_toNat, BitVec.setWidth_eq]

theorem vector8_cases {α : Type} (v : Vector α 8) :
    ∃ a b c d e f g h, v = #v[a, b, c, d, e, f, g, h] := by
  obtain ⟨⟨l⟩, hl⟩ := v
  match l, hl with
  | [a, b, c, d, e, f, g, h], _ => exact ⟨a, b, c, d, e, f, g, h, rfl⟩

theorem length_deskImage (d : Desk) : (deskImage d).length = 26 := by
  simp [deskImage, word16, eventSetBytes]

theorem parseDesk_deskImage {d : Desk} (h : d.InRange) :
    parseDesk (deskImage d) = some (d, false) := by
  obtain ⟨code, tap100, tap1000, arm500, arm5000, dwell1000, confirm2, confirm30, volume3, alert23,
    retain23⟩ := h
  obtain ⟨e1, e2, e3, e4, e5, e6, e7, e8, slots⟩ := vector8_cases d.summarySlots
  have codeLt : d.attentionCode < 256 := code.elim (fun h => h ▸ by decide) lt_of_isOrdinary
  have attention : byteAt (deskImage d) 0 = d.attentionCode := toNat_byteOf codeLt
  have tap : wordAt (deskImage d) 1 = d.tapWindow := toNat_byteOf_word (by omega)
  have arm : wordAt (deskImage d) 3 = d.armWindow := toNat_byteOf_word (by omega)
  have dwell : wordAt (deskImage d) 5 = d.dwell := toNat_byteOf_word (by omega)
  have glide : flagOf? (byteAt (deskImage d) 7) = some d.glideDefault := flagOf?_flagByte _
  have focus : optionOf? 8 (byteAt (deskImage d) 8) = some d.defaultFocus := optionOf?_byte (by omega) _
  have confirm : byteAt (deskImage d) 9 = d.confirmWindow := toNat_byteOf (by omega)
  have volume : byteAt (deskImage d) 10 = d.cueVolume := toNat_byteOf (by omega)
  have alert : optionOf? 8 (byteAt (deskImage d) 11) = some d.alertChannel := optionOf?_byte (by omega) _
  have summary : summarySlotsAt? (deskImage d) 12 = some d.summarySlots := by
    have cut : slice (deskImage d) 12 8 = [e1, e2, e3, e4, e5, e6, e7, e8].map summarySlotByte := by
      rw [deskImage, slots]
      rfl
    simp [summarySlotsAt?, cut, summarySlotOf?_byte, slots]
  have alerts : eventSetAt? (deskImage d) 20 = some d.alertSet := by
    refine eventSetAt?_bytes alert23 ?_ ?_ ?_ <;> rw [deskImage, slots] <;> rfl
  have retain : eventSetAt? (deskImage d) 23 = some d.retainSet := by
    refine eventSetAt?_bytes retain23 ?_ ?_ ?_ <;> rw [deskImage, slots] <;> rfl
  have known : (d.attentionCode = 0 || isOrdinary d.attentionCode) = true := by simpa using code
  unfold parseDesk
  dsimp only
  rw [attention, glide, focus, alert, summary, alerts, retain, tap, arm, dwell, confirm, volume]
  simp [known, clampTo_of_le, tap100, tap1000, arm500, arm5000, dwell1000, confirm2, confirm30, volume3]

end Sys2Proof.Machine
end

section
/-! Tables written from their own images, and the load of a store, table by table (R172, R186). -/

namespace Sys2Proof.Machine

/-! ## Records put in place one after the other (R167) -/

theorem nth_putAt {α : Type} {n : Nat} (v : Vector α n) (k : Nat) (a : α) (i : Fin n) :
    nth (putAt v k a) i = if i.val = k then a else nth v i := by
  unfold putAt
  split
  · rename_i hk
    rw [nth_put]
    simp only [Fin.ext_iff, eq_comm]
  · rename_i hk
    rw [if_neg (by omega)]

theorem nth_install {α : Type} {n : Nat} (l : List α) (v : Vector α n) (k : Nat) (i : Fin n) :
    nth (install v k (l.map fun a => some (a, false))) i =
      if h : k ≤ i.val ∧ i.val - k < l.length then l[i.val - k] else nth v i := by
  induction l generalizing v k with
  | nil => simp [install]
  | cons a l ih =>
    rw [List.map_cons, install, ih, nth_putAt]
    rcases Nat.lt_trichotomy i.val k with h | h | h
    · rw [dif_neg (by omega), dif_neg (by omega), if_neg (by omega)]
    · rw [dif_neg (by omega), if_pos h, dif_pos ⟨h.ge, by simp [h]⟩]
      simp [h]
    · have shift : i.val - k = i.val - (k + 1) + 1 := by omega
      by_cases hl : i.val - (k + 1) < l.length
      · rw [dif_pos ⟨h, hl⟩, dif_pos ⟨h.le, by rw [List.length_cons]; omega⟩]
        simp only [shift, List.getElem_cons_succ]
      · rw [dif_neg (by omega), dif_neg (by rw [List.length_cons]; omega), if_neg (by omega)]

/-- A whole table of records put in place from the first on. -/
theorem install_toList {α : Type} {n : Nat} (v w : Vector α n) :
    install v 0 (w.toList.map fun a => some (a, false)) = w := by
  refine nth_ext fun i => ?_
  rw [nth_install, dif_pos ⟨Nat.zero_le _, by simp⟩]
  simp [nth]

theorem malformedAt_marksOf {α : Type} (k : Nat) (l : List α) :
    malformedAt k (marksOf (l.map fun a => some (a, false))) = [] := by
  induction l generalizing k with
  | nil => rfl
  | cons a l ih => exact ih (k + 1)

/-- Written images that are the images of a table's records. -/
theorem written_toList {α : Type} {n : Nat} {parse : List Byte → Option (α × Bool)}
    {image : α → List Byte} {w : Vector α n}
    (h : ∀ i, parse (image (nth w i)) = some (nth w i, false)) (v : Vector α n) :
    install v 0 ((w.toList.map image).map parse) = w ∧
      malformedAt 0 (marksOf ((w.toList.map image).map parse)) = [] := by
  have read : (w.toList.map image).map parse = w.toList.map fun a => some (a, false) := by
    rw [List.map_map]
    refine List.map_congr_left fun a ha => ?_
    obtain ⟨i, hi, rfl⟩ := List.mem_iff_getElem.1 ha
    have lt : i < n := by simpa using hi
    simpa [nth] using h ⟨i, lt⟩
  rw [read]
  exact ⟨install_toList v w, malformedAt_marksOf 0 _⟩

/-! ## The images of a sound table (11.4) -/

theorem recordImages_lengths {A : Tables} (h : A.Sound) (T : Table) :
    (recordImages T A).length = recordCount T ∧
      ∀ x ∈ recordImages T A, x.length = recordBytes T := by
  obtain ⟨-, -, -, -, presets, -, keymaps, macros, -, -⟩ := h
  have each : ∀ {α : Type} {n w : Nat} {v : Vector α n} {image : α → List Byte},
      (∀ i, (image (nth v i)).length = w) →
      (v.toList.map image).length = n ∧ ∀ x ∈ v.toList.map image, x.length = w := by
    intro α n w v image hw
    refine ⟨by simp, fun x hx => ?_⟩
    obtain ⟨a, ha, rfl⟩ := List.mem_map.1 hx
    obtain ⟨i, hi, rfl⟩ := List.mem_iff_getElem.1 ha
    have lt : i < n := by simpa using hi
    simpa [nth] using hw ⟨i, lt⟩
  cases T with
  | channels => exact each fun _ => length_channelImage _
  | authority => exact each fun _ => length_authorityImage _
  | heads => exact each fun _ => length_headImage _
  | monitors => exact each fun _ => length_monitorImage _
  | presets => exact each fun i => length_presetImage (presets i)
  | hotkeys => exact each fun _ => length_hotkeyImage _
  | keymaps => exact each fun i => length_keymapImage (keymaps i)
  | macros => exact each fun i => length_macroImage (macros i)
  | ballistics => exact ⟨rfl, by simp [recordImages, length_ballisticsImage, recordBytes]⟩
  | desk => exact ⟨rfl, by simp [recordImages, length_deskImage, recordBytes]⟩

theorem length_tableImage {A : Tables} (h : A.Sound) (T : Table) :
    (tableImage T A).length = imageBytes T := by
  obtain ⟨count, each⟩ := recordImages_lengths h T
  rw [tableImage, length_flatten_of_length each, count, imageBytes]

theorem chunks_tableImage {A : Tables} (h : A.Sound) (T : Table) :
    chunks (recordBytes T) (recordCount T) (tableImage T A) = recordImages T A := by
  obtain ⟨count, each⟩ := recordImages_lengths h T
  have cut := chunks_flatten_append each []
  rwa [List.append_nil, count] at cut

/-- The images of a sound table, written over any tables, put that table in place without a fault. -/
theorem written_recordImages {A : Tables} (h : A.Sound) (T : Table) (B : Tables) :
    sameTable T (writtenTables T 0 (recordImages T A) B).1 A ∧
      malformedAt 0 (writtenTables T 0 (recordImages T A) B).2 = [] := by
  obtain ⟨channels, -, heads, monitors, presets, hotkeys, keymaps, macros, ballistics, desk⟩ := h
  cases T with
  | channels => exact written_toList (fun i => parseChannel_channelImage (channels i)) _
  | authority => exact written_toList (fun i => parseAuthority_authorityImage _) _
  | heads => exact written_toList (fun i => parseHead_headImage (heads i).1) _
  | monitors => exact written_toList (fun i => parseMonitor_monitorImage (monitors i).1) _
  | presets => exact written_toList (fun i => parsePreset_presetImage (presets i)) _
  | hotkeys => exact written_toList (fun i => parseHotkey_hotkeyImage (hotkeys i)) _
  | keymaps => exact written_toList (fun i => parseKeymap_keymapImage (keymaps i)) _
  | macros => exact written_toList (fun i => parseMacro_macroImage (macros i)) _
  | ballistics =>
    simp [sameTable, writtenTables, recordImages, parseBallistics_ballisticsImage ballistics,
      lastRecord, marksOf, malformedAt]
  | desk =>
    simp [sameTable, writtenTables, recordImages, parseDesk_deskImage desk, lastRecord, marksOf,
      malformedAt]

/-- Sound tables pass the checks across records (R103, R104, R163). -/
theorem loadCrossOk_of_sound {A B : Tables} (h : A.Sound) {T : Table} (same : sameTable T B A)
    (channels : T = .heads → B.channels = A.channels) : loadCrossOk T B = true := by
  obtain ⟨-, floor, heads, monitors, -⟩ := h
  cases T with
  | authority =>
    obtain ⟨c, hc⟩ := floor
    have same : B.authority = A.authority := same
    simp only [loadCrossOk, someFloorZero, List.any_eq_true, beq_iff_eq, same]
    exact ⟨c, mem_allChans c, hc⟩
  | heads =>
    have same : B.heads = A.heads := same
    simp only [loadCrossOk, List.all_eq_true]
    intro k _
    simp only [headFits, same, channels rfl]
    split
    · rfl
    · rename_i o ho
      simpa using (heads k).2 o ho
  | monitors =>
    have same : B.monitors = A.monitors := same
    simp only [loadCrossOk, List.all_eq_true, Bool.not_eq_true', monitorOverlaps, same,
      Bool.and_eq_false_iff, List.any_eq_false]
    intro m _
    by_cases hm : (nth A.monitors m).enabled = true
    · refine .inr fun k _ meets => ?_
      simp only [Bool.and_eq_true, bne_iff_ne] at meets
      obtain ⟨⟨other, on⟩, meet⟩ := meets
      rw [(monitors m).2 k other hm on] at meet
      cases meet
    · exact .inl (by simpa using hm)
  | _ => rfl

/-! ## One copy (R172, R186) -/

theorem toNat_append_bytes (hi lo : Byte) : (hi ++ lo).toNat = lo.toNat + 256 * hi.toNat := by
  have lt := lo.isLt
  rw [BitVec.toNat_append, ← Nat.shiftLeft_add_eq_or_of_lt lt, Nat.shiftLeft_eq]
  omega

/-- The two bytes in which a signature is stored, the less significant first (R186). -/
theorem signatureBytes_append (hi lo : Byte) : signatureBytes (hi ++ lo) = [lo, hi] := by
  have lt := lo.isLt
  have lt' := hi.isLt
  have low : byteOf (hi ++ lo).toNat = lo := BitVec.eq_of_toNat_eq (by
    rw [byteOf, BitVec.toNat_ofNat, toNat_append_bytes]
    omega)
  have high : byteOf ((hi ++ lo).toNat / 256) = hi := BitVec.eq_of_toNat_eq (by
    rw [byteOf, BitVec.toNat_ofNat, toNat_append_bytes]
    omega)
  rw [signatureBytes, word16, low, high]

/-- The signature that stands behind an image of the table's length is the one stored. -/
theorem storedSignature_append {T : Table} {image : List Byte} (h : image.length = imageBytes T)
    (lo hi : Byte) : storedSignature T (image ++ [lo, hi]) = hi ++ lo := by
  have low : byteAt (image ++ [lo, hi]) (imageBytes T) = lo.toNat := by simp [byteAt, ← h]
  have high : byteAt (image ++ [lo, hi]) (imageBytes T + 1) = hi.toNat := by simp [byteAt, ← h]
  rw [storedSignature, wordAt, low, high, ← toNat_append_bytes, BitVec.ofNat_toNat]
  exact BitVec.setWidth_eq _

/-- The copy of a sound table: its image and after it the signature of that image. -/
theorem loadCopy_storeImage {A : Tables} (h : A.Sound) {T : Table} {lo hi : Byte}
    (sig : hi ++ lo = signature (tableImage T A)) {B : Tables}
    (channels : T = .heads → B.channels = A.channels) :
    loadCopy T (tableImage T A ++ [lo, hi]) B =
      some (writtenTables T 0 (recordImages T A) B).1 := by
  have length := length_tableImage h T
  obtain ⟨same, faultless⟩ := written_recordImages h T B
  have cross : loadCrossOk T (writtenTables T 0 (recordImages T A) B).1 = true :=
    loadCrossOk_of_sound h same fun hT => by
      subst hT
      exact channels rfl
  have image : (tableImage T A ++ [lo, hi]).take (imageBytes T) = tableImage T A :=
    List.take_left' length
  have whole : (tableImage T A ++ [lo, hi]).length = imageBytes T + 2 := by simp [length]
  unfold loadCopy
  dsimp only
  rw [image, storedSignature_append length, if_pos ⟨whole, sig.symm⟩, chunks_tableImage h,
    faultless, cross]
  rfl

/-- A copy of another length, or with another signature behind its image, fails (R172). -/
theorem loadCopy_eq_none {T : Table} {copy : StoreCopy} (h : copy.length ≠ imageBytes T + 2 ∨
      ∃ image lo hi, copy = image ++ [lo, hi] ∧ hi ++ lo ≠ signature image) (B : Tables) :
    loadCopy T copy B = none := by
  unfold loadCopy
  dsimp only
  refine if_neg fun ⟨whole, sig⟩ => ?_
  rcases h with short | ⟨image, lo, hi, rfl, differs⟩
  · exact short whole
  · have length : image.length = imageBytes T := by simpa using whole
    rw [List.take_left' length, storedSignature_append length] at sig
    exact differs sig.symm

/-! ## One table of the load (R172) -/

theorem tableIndex_injective : Function.Injective tableIndex := by
  have back : Function.LeftInverse tableAt tableIndex := fun t => by cases t <;> rfl
  exact back.injective

theorem sameTable_symm {T : Table} {A B : Tables} (h : sameTable T A B) : sameTable T B A := by
  cases T <;> exact Eq.symm h

theorem eq_of_sameTable {A B : Tables} (h : ∀ T, sameTable T A B) : A = B := by
  obtain ⟨a, b, c, d, e, f, g, i, j, k⟩ := A
  obtain rfl : a = _ := h .channels
  obtain rfl : b = _ := h .authority
  obtain rfl : c = _ := h .heads
  obtain rfl : d = _ := h .monitors
  obtain rfl : e = _ := h .presets
  obtain rfl : f = _ := h .hotkeys
  obtain rfl : g = _ := h .keymaps
  obtain rfl : i = _ := h .macros
  obtain rfl : j = _ := h .ballistics
  obtain rfl : k = _ := h .desk
  rfl

theorem sameTable_withFactory (T : Table) (A : Tables) : sameTable T (withFactory T A) factoryTables := by
  cases T <;> exact rfl

theorem sameTable_withFactory_other {t u : Table} (h : u ≠ t) (A : Tables) :
    sameTable u (withFactory t A) A := by
  cases t <;> cases u <;> first | exact absurd rfl h | exact rfl

/-- A table and the signature held of it, as a load has got them so far. -/
structure Holds (T : Table) (A : Tables) (sig : Option (BitVec 16)) (a : Loaded) : Prop where
  table : sameTable T a.tables A
  signature : nth a.signatures (tableIndex T) = sig

/-- A table is loaded, or the load of it fails. -/
theorem loadTable_cases (store : Vector (Option StoreCopy) 10) (a : Loaded) (t : Table) :
    loadTable store a t = loadFactory t a ∨ ∃ copy T, nth store (tableIndex t) = some copy ∧
      loadCopy t copy a.tables = some T ∧ loadTable store a t =
        ⟨T, put a.signatures (tableIndex t) (some (storedSignature t copy)), a.failed⟩ := by
  unfold loadTable
  split
  · exact .inl rfl
  · rename_i copy hc
    split
    · exact .inl rfl
    · rename_i T hT
      exact .inr ⟨copy, T, hc, hT, rfl⟩

theorem sameTable_loadCopy {t u : Table} (h : u ≠ t) {copy : StoreCopy} {A T : Tables}
    (hT : loadCopy t copy A = some T) : sameTable u T A := by
  unfold loadCopy at hT
  dsimp only at hT
  repeat' split at hT
  · cases hT
    exact sameTable_symm (sameTable_writtenTables h _ _ A)
  · cases hT
  · cases hT

namespace Holds

variable {T t : Table} {A : Tables} {sig : Option (BitVec 16)} {a : Loaded}

theorem factory (T : Table) (a : Loaded) : Holds T factoryTables none (loadFactory T a) := by
  have here := sameTable_withFactory T a.tables
  have unsigned : nth (put a.signatures (tableIndex T) none) (tableIndex T) = none := nth_put_self _ _ _
  unfold loadFactory
  dsimp only
  split
  · rename_i hT
    obtain ⟨rfl, -⟩ := hT
    exact ⟨rfl, by rw [nth_put_ne _ (by decide)]; exact unsigned⟩
  · exact ⟨here, unsigned⟩

/-- The failure of another table leaves this one, but for CHANNELS where the factory HEADS do not fit. -/
theorem factory_other (h : Holds T A sig a) (ht : T ≠ t) (hc : T ≠ .channels) :
    Holds T A sig (loadFactory t a) := by
  have table := sameTable_trans (sameTable_withFactory_other ht a.tables) h.table
  have signature : nth (put a.signatures (tableIndex t) none) (tableIndex T) = sig := by
    rw [nth_put_ne _ fun he => ht (tableIndex_injective he).symm, h.signature]
  unfold loadFactory
  dsimp only
  split
  · refine ⟨sameTable_trans (sameTable_withFactory_other hc _) table, ?_⟩
    rw [nth_put_ne _ fun he => hc (tableIndex_injective he).symm, signature]
  · exact ⟨table, signature⟩

/-- A table at its factory defaults stays there whatever table fails next. -/
theorem factory_keeps (h : Holds T factoryTables none a) (t : Table) :
    Holds T factoryTables none (loadFactory t a) := by
  by_cases ht : T = t
  · exact ht ▸ factory T a
  by_cases hc : T = .channels
  · subst hc
    have table := sameTable_trans (sameTable_withFactory_other ht a.tables) h.table
    have signature : nth (put a.signatures (tableIndex t) none) (tableIndex .channels) = none := by
      rw [nth_put_ne _ fun he => ht (tableIndex_injective he).symm, h.signature]
    unfold loadFactory
    dsimp only
    split
    · exact ⟨rfl, nth_put_self _ _ _⟩
    · exact ⟨table, signature⟩
  · exact h.factory_other ht hc

/-- A table that passes leaves every other one. -/
theorem copy_other (h : Holds T A sig a) (ht : T ≠ t) {copy : StoreCopy} {B : Tables}
    (hB : loadCopy t copy a.tables = some B) (g : BitVec 16) (failed : Bool) :
    Holds T A sig ⟨B, put a.signatures (tableIndex t) (some g), failed⟩ where
  table := sameTable_trans (sameTable_loadCopy ht hB) h.table
  signature := by rw [nth_put_ne _ fun he => ht (tableIndex_injective he).symm, h.signature]

end Holds

/-! ## The whole load (R172) -/

theorem foldl_reaches {α β : Type} {P : β → Prop} {f : β → α → β} {x : α}
    (keep : ∀ b a, P b → P (f b a)) (reach : ∀ b, P (f b x)) {l : List α} (hx : x ∈ l) (b : β) :
    P (l.foldl f b) := by
  have kept : ∀ (l : List α) (b : β), P b → P (l.foldl f b) := fun l => by
    induction l with
    | nil => exact fun _ h => h
    | cons a l ih => exact fun b h => ih _ (keep b a h)
  obtain ⟨pre, post, rfl⟩ := List.append_of_mem hx
  rw [List.foldl_append, List.foldl_cons]
  exact kept post _ (reach _)

theorem mem_allTables (T : Table) : T ∈ allTables := by cases T <;> simp [allTables]

theorem failed_loadFactory (t : Table) (a : Loaded) : (loadFactory t a).failed = true := by
  unfold loadFactory
  dsimp only
  split <;> rfl

/-- A table without a copy that passes takes its factory defaults with no stored signature, and the load has failed. -/
theorem loadTables_failing {store : Vector (Option StoreCopy) 10} {T : Table}
    (h : ∀ copy, nth store (tableIndex T) = some copy → ∀ B, loadCopy T copy B = none) :
    Holds T factoryTables none (loadTables store) ∧ (loadTables store).failed = true := by
  have fails : ∀ a, loadTable store a T = loadFactory T a := fun a =>
    (loadTable_cases store a T).resolve_right fun ⟨copy, B, hc, hB, _⟩ =>
      nomatch (h copy hc a.tables).symm.trans hB
  refine foldl_reaches (P := fun a => Holds T factoryTables none a ∧ a.failed = true)
    (fun a t ha => ?_) (fun a => ?_) (mem_allTables T) _
  · obtain ⟨holds, failed⟩ := ha
    rcases loadTable_cases store a t with ht | ⟨copy, B, hc, hB, ht⟩
    · rw [ht]
      exact ⟨holds.factory_keeps t, failed_loadFactory t a⟩
    · have other : T ≠ t := by
        rintro rfl
        exact nomatch (h copy hc a.tables).symm.trans hB
      rw [ht]
      exact ⟨holds.copy_other other hB _ _, failed⟩
  · rw [fails]
    exact ⟨.factory T a, failed_loadFactory T a⟩

/-- The store's copy of a table is the image of that table of `A` and after it its signature. -/
def CopyOf (store : Vector (Option StoreCopy) 10) (A : Tables) (T : Table) : Prop :=
  ∃ lo hi, hi ++ lo = signature (tableImage T A) ∧
    nth store (tableIndex T) = some (tableImage T A ++ [lo, hi])

/-- A table whose copy is that of a sound table takes it, HEADS where CHANNELS did before it. -/
theorem loadTable_copy {store : Vector (Option StoreCopy) 10} {A : Tables} (h : A.Sound) {T : Table}
    (hc : CopyOf store A T) {a : Loaded} (channels : T = .heads → a.tables.channels = A.channels) :
    loadTable store a T = ⟨(writtenTables T 0 (recordImages T A) a.tables).1,
      put a.signatures (tableIndex T) (some (signature (tableImage T A))), a.failed⟩ := by
  obtain ⟨lo, hi, sig, copy⟩ := hc
  have read := loadCopy_storeImage h sig channels
  unfold loadTable
  rw [copy]
  dsimp only
  rw [read, storedSignature_append (length_tableImage h T), sig]

theorem holds_loadTable {store : Vector (Option StoreCopy) 10} {A : Tables} (h : A.Sound) {T : Table}
    (hc : CopyOf store A T) {a : Loaded} (channels : T = .heads → a.tables.channels = A.channels) :
    Holds T A (some (signature (tableImage T A))) (loadTable store a T) := by
  rw [loadTable_copy h hc channels]
  exact ⟨(written_recordImages h T _).1, nth_put_self _ _ _⟩

/-- A table that is not checked against another takes its copy, whatever the other copies hold. -/
theorem loadTables_copy {store : Vector (Option StoreCopy) 10} {A : Tables} (h : A.Sound) {T : Table}
    (hc : CopyOf store A T) (notChannels : T ≠ .channels) (notHeads : T ≠ .heads) :
    Holds T A (some (signature (tableImage T A))) (loadTables store) := by
  have reach : ∀ a, Holds T A (some (signature (tableImage T A))) (loadTable store a T) := fun a =>
    holds_loadTable h hc fun hT => absurd hT notHeads
  refine foldl_reaches (fun a t ha => ?_) reach (mem_allTables T) _
  by_cases ht : T = t
  · exact ht ▸ reach a
  · rcases loadTable_cases store a t with htab | ⟨copy, B, -, hB, htab⟩
    · rw [htab]
      exact ha.factory_other ht notChannels
    · rw [htab]
      exact ha.copy_other ht hB _ _

/-- The tables loaded so far are those of `A`, and none has failed. -/
structure LoadedSoFar (A : Tables) (done : List Table) (a : Loaded) : Prop where
  holds : ∀ T ∈ done, Holds T A (some (signature (tableImage T A))) a
  failed : a.failed = false

namespace LoadedSoFar

variable {store : Vector (Option StoreCopy) 10} {A : Tables} {done : List Table} {a : Loaded}

theorem load (h : LoadedSoFar A done a) (sound : A.Sound) {T : Table} (hc : CopyOf store A T)
    (channels : T = .heads → .channels ∈ done) :
    LoadedSoFar A (T :: done) (loadTable store a T) := by
  have before : T = .heads → a.tables.channels = A.channels := fun hT =>
    (h.holds .channels (channels hT)).table
  have taken := loadTable_copy sound hc before
  refine ⟨fun t ht => ?_, by rw [taken]; exact h.failed⟩
  by_cases here : t = T
  · exact here ▸ holds_loadTable sound hc before
  · have held := h.holds t ((List.mem_cons.1 ht).resolve_left here)
    rw [taken]
    exact ⟨sameTable_trans (sameTable_symm (sameTable_writtenTables here _ _ _)) held.table, by
      rw [nth_put_ne _ fun he => here (tableIndex_injective he).symm, held.signature]⟩

theorem loadAll (h : LoadedSoFar A done a) (sound : A.Sound) (hc : ∀ T, CopyOf store A T)
    (channels : .channels ∈ done) (ts : List Table) :
    LoadedSoFar A (ts.reverse ++ done) (ts.foldl (loadTable store) a) := by
  induction ts generalizing done a with
  | nil => exact h
  | cons t ts ih =>
    have next := ih (h.load sound (hc t) fun _ => channels) (List.mem_cons_of_mem t channels)
    rwa [List.reverse_cons, List.append_assoc]

end LoadedSoFar

/-- A store whose copies are all those of sound tables is loaded whole: CHANNELS before the HEADS that it holds. -/
theorem loadTables_sound {store : Vector (Option StoreCopy) 10} {A : Tables} (h : A.Sound)
    (hc : ∀ T, CopyOf store A T) : LoadedSoFar A allTables (loadTables store) := by
  have empty : LoadedSoFar A [] ⟨factoryTables, Vector.replicate 10 none, false⟩ :=
    ⟨fun T hT => (nomatch hT), rfl⟩
  have first := empty.load h (hc .channels) fun hT => nomatch hT
  have all := first.loadAll h hc (List.mem_singleton_self _) allTables.tail
  exact ⟨fun T _ => all.holds T (by cases T <;> simp [allTables]), all.failed⟩

end Sys2Proof.Machine
end

section
/-! Saves, the store's reports and the load at a power-on (R164, R171, R172): O54. -/

namespace Sys2Proof.Machine

/-! ## Saves (R171) -/

theorem exec_saveStore_accepted {c : Chan} {f : Frame} {s : State} (h : Accepted .saveStore c f s) :
    exec (.saveStore c f) s = .next (answer .saveStore c f ⟨.working, [], some .save⟩ s
      { s with mgmt := { s.mgmt with save := some ⟨c, f.tag, s.tables, .channels⟩ } }) := by
  obtain ⟨active, passed, wellFormed⟩ := h
  change Host.Outcome.next (request .saveStore c f (whenOk .saveStore f (workSaveStore c f)) s) = _
  rw [request, if_pos active, passed]
  dsimp only
  rw [whenOk, if_pos wellFormed]
  rfl

theorem storeReports_idle {s : State} (h : s.mgmt.save = none) :
    exec .storeTableWritten s = .next s ∧ exec .storeWriteFailed s = .next s := by
  constructor
  · change execStoreTableWritten s = _
    rw [execStoreTableWritten, h]
  · change execStoreWriteFailed s = _
    rw [execStoreWriteFailed, h]

theorem exec_storeTableWritten {s : State} {sv : Save} (h : s.mgmt.save = some sv) :
    exec .storeTableWritten s = .next (tableWritten sv s) := by
  change execStoreTableWritten s = _
  rw [execStoreTableWritten, h]

theorem exec_storeWriteFailed {s : State} {sv : Save} (h : s.mgmt.save = some sv) :
    exec .storeWriteFailed s = .next (writeFailed sv s) := by
  change execStoreWriteFailed s = _
  rw [execStoreWriteFailed, h]

/-- A copy is an image and after it its signature, the less significant byte first (R186). -/
theorem storeTable_eq {sv : Save} {lo hi : Byte}
    (sig : hi ++ lo = signature (tableImage sv.writing sv.snapshot)) (s : State) :
    storeTable sv s = { s with
      store := put s.store (tableIndex sv.writing)
        (some (tableImage sv.writing sv.snapshot ++ [lo, hi])),
      mgmt := { s.mgmt with
        signatures := put s.mgmt.signatures (tableIndex sv.writing)
          (some (signature (tableImage sv.writing sv.snapshot))) } } := by
  rw [storeTable, storeImage, tableSignature, ← sig, signatureBytes_append]
  rfl

theorem tableAfter_of_succ {t T : Table} (h : (tableIndex T).val = (tableIndex t).val + 1) :
    tableAfter t = some T := by
  rw [tableAfter, ← h]
  cases T <;> rfl

theorem tableWritten_next {sv : Save} {T : Table}
    (h : (tableIndex T).val = (tableIndex sv.writing).val + 1) (s : State) :
    tableWritten sv s = setSave (some { sv with writing := T }) (storeTable sv s) := by
  rw [tableWritten, tableAfter_of_succ h]

theorem tableWritten_last {sv : Save} (h : sv.writing = .desk) (s : State) :
    tableWritten sv s =
      deferredOutcome .save sv.chan (.bare .ok) (setSave none (storeTable sv s)) := by
  rw [tableWritten, h]
  rfl

/-! ## Deferred outcomes (R164) -/

/-- An outcome composed in a state with the slots of `s` replaces the response that waits for it there, or goes nowhere. -/
theorem deferredOutcome_cases {s u : State} (slots : u.mgmt.slots = s.mgmt.slots) (a : Awaits)
    (c : Chan) (reply : Reply) :
    (∀ r, nth s.mgmt.slots c = some r → r.awaits = some a →
      deferredOutcome a c reply u = respond c r.tag r.adjusted reply u) ∧
    ((∀ r, nth s.mgmt.slots c = some r → r.awaits ≠ some a) → deferredOutcome a c reply u = u) := by
  unfold deferredOutcome
  rw [slots]
  refine ⟨fun r slot waits => ?_, fun other => ?_⟩
  · rw [slot]
    exact if_pos waits
  · split
    · rfl
    · exact if_neg (other _ (by assumption))

theorem slots_latch (e : Event) (s : State) : (latch e s).mgmt.slots = s.mgmt.slots := by
  rw [latch_mgmt]

/-! ## The load at a power-on (R172) -/

/-- STORE_FAULT is latched at a power-on exactly where a table failed its load (R172, R181). -/
theorem storeFault_booted (detect : Vector Bool 6) (s : State) :
    hasEvent (s.booted detect).mgmt.latch .storeFault = (loadTables s.storeAtPowerOn).failed := by
  unfold State.booted
  dsimp only
  generalize loadTables s.storeAtPowerOn = a
  have started := latchStart_powerOnBase detect a s
  have booting : Booting (powerOnBase detect a s) (latchStart a.failed (powerOnBase detect a s)) := by
    rw [started]
    rfl
  have detached : AllDetached (latchStart a.failed (powerOnBase detect a s)) :=
    booting.allDetached (allDetached_powerOnBase detect a s)
  have faults : hasEvent (latchStart a.failed (powerOnBase detect a s)).mgmt.latch .storeFault =
      a.failed := by
    rw [started, State.setMgmt_mgmt, hasEvent_startEvents]
    simp
  generalize latchStart a.failed (powerOnBase detect a s) = u at detached faults ⊢
  obtain ⟨-, steps⟩ := layoutsStarted detached (ms := allMonitors) (by decide)
  have frames := framesStarted allMonitors (allMonitors.foldl powerOnLayout u)
  generalize allMonitors.foldl powerOnLayout u = v at steps frames ⊢
  rw [frames.latch, ← faults, Bool.eq_iff_iff]
  exact ⟨fun h => (steps.only _ h).resolve_right fun refused => by cases refused <;> contradiction,
    steps.stays _⟩

/-- What a power-on takes from the load of the store. -/
theorem powerOn_loads (detect : Vector Bool 6) (s : State) :
    (powerOn detect s).tables = (loadTables s.storeAtPowerOn).tables ∧
      (powerOn detect s).mgmt.signatures = (loadTables s.storeAtPowerOn).signatures ∧
      (powerOn detect s).store = s.storeAtPowerOn ∧
      hasEvent (powerOn detect s).mgmt.latch .storeFault = (loadTables s.storeAtPowerOn).failed := by
  have booted := bootedFrom detect s
  have fault := storeFault_booted detect s
  have notice : powerOn detect s = deskNotice (s.booted detect) := by
    unfold powerOn State.booted
    rfl
  generalize loadTables s.storeAtPowerOn = a at booted fault ⊢
  have form : s.booted detect = bootState detect a s (s.booted detect).display.monitors
    (s.booted detect).mgmt.latch := booted.booting
  rw [notice]
  generalize s.booted detect = u at booted fault form ⊢
  have homed : deskNotice u = u.homed :=
    deskNotice_powerOn (booted.booting.allDetached (allDetached_powerOnBase detect a s))
      (by rw [form]; rfl) (by rw [form]; rfl)
  rw [homed]
  refine ⟨?_, ?_, ?_, fault⟩
  all_goals
    rw [form]
    rfl

/-- Settles O54: the save by its three steps, and the load by what becomes of one table while the
others are loaded after it. -/
theorem storeSaveAndLoad : Obligations.StoreSaveAndLoad := by
  refine fun s => ⟨fun c f => exec_saveStore_accepted, storeReports_idle, ?_, ?_, ?_⟩
  · rintro sv lo hi u saving sig rfl
    rw [exec_storeTableWritten saving]
    refine ⟨fun T hT => ?_, fun last v hv => ?_⟩
    · rw [tableWritten_next hT, storeTable_eq sig]
      rfl
    · have stored : setSave none (storeTable sv s) = v := by
        rw [storeTable_eq sig, hv]
        rfl
      rw [tableWritten_last last, stored]
      obtain ⟨waiting, elsewhere⟩ :=
        deferredOutcome_cases (s := s) (u := v) (by rw [hv]) .save sv.chan (.bare .ok)
      exact ⟨fun r slot waits => congrArg Host.Outcome.next (waiting r slot waits),
        fun other => congrArg Host.Outcome.next (elsewhere other)⟩
  · rintro sv v saving rfl
    rw [exec_storeWriteFailed saving]
    obtain ⟨waiting, elsewhere⟩ := deferredOutcome_cases (s := s)
      (slots_latch .storeFault (setSave none (storeUnknown sv.writing s))) .save sv.chan
      (.bare .storeFault)
    exact ⟨fun r slot waits => congrArg Host.Outcome.next (waiting r slot waits),
      fun other => congrArg Host.Outcome.next (elsewhere other)⟩
  · intro detect idle
    have found : s.storeAtPowerOn = s.store := by rw [State.storeAtPowerOn, idle]
    obtain ⟨tables, signatures, store, fault⟩ := powerOn_loads detect s
    rw [found] at tables signatures store fault
    refine ⟨powerOn detect s, rfl, store, fun T bad => ?_, fun A T sound unchecked copy => ?_,
      fun A sound copies => ?_⟩
    · obtain ⟨⟨table, unsigned⟩, failed⟩ := loadTables_failing (store := s.store) (T := T)
        fun copy hc B => by
          rcases bad with missing | ⟨copy', hc', faulty⟩
          · exact nomatch missing.symm.trans hc
          · obtain rfl := Option.some.inj (hc.symm.trans hc')
            exact loadCopy_eq_none faulty B
      rw [tables, signatures, fault]
      exact ⟨table, unsigned, failed⟩
    · obtain ⟨table, signed⟩ := loadTables_copy sound copy (by rintro rfl; simp at unchecked)
        (by rintro rfl; simp at unchecked)
      rw [tables, signatures]
      exact ⟨table, signed⟩
    · have loaded := loadTables_sound sound copies
      rw [tables, signatures, fault]
      exact ⟨eq_of_sameTable fun T => (loaded.holds T (mem_allTables T)).table, loaded.failed,
        fun T => (loaded.holds T (mem_allTables T)).signature⟩

end Sys2Proof.Machine
end

section
/-! The event latch, the alert reports, the summary byte, and READ_EVENTS and CLEAR_EVENTS (R181 to R184): O56. -/

namespace Sys2Proof.Machine

/-! ## Alerts (R184) -/

theorem sendAlert_active {c : Chan} {s : State} (h : (s.link c).state = .active) (e : Event) :
    sendAlert c e s = s.alerted true [.report c .management (alertBytes e s)] := by
  rw [sendAlert, offer_active h]
  rfl

theorem alertReady_eq_some_iff {s : State} {c : Chan} :
    s.alertReady = some c ↔ s.mgmt.alertOutstanding = false ∧
      s.tables.desk.alertChannel = some c ∧ (s.link c).state = .active := by
  unfold State.alertReady
  cases s.mgmt.alertOutstanding with
  | true => simp
  | false =>
    cases s.tables.desk.alertChannel with
    | none => simp
    | some d =>
      simp only [Bool.false_eq_true, if_false, Option.ite_none_right_eq_some, Option.some.injEq,
        true_and]
      constructor
      · rintro ⟨active, rfl⟩
        exact ⟨rfl, active⟩
      · rintro ⟨rfl, active⟩
        exact ⟨active, rfl⟩

theorem alertReady_eq_none {s : State} (h : s.mgmt.alertOutstanding = true ∨
      ∀ c, s.tables.desk.alertChannel = some c → (s.link c).state ≠ .active) :
    s.alertReady = none := by
  refine Option.eq_none_iff_forall_ne_some.2 fun c ready => ?_
  obtain ⟨clear, channel, active⟩ := alertReady_eq_some_iff.1 ready
  rcases h with outstanding | inactive
  · exact Bool.noConfusion (outstanding.symm.trans clear)
  · exact inactive c channel active

/-- Writing the latch leaves the alert channel as ready as it was. -/
theorem alertReady_setLatch (s : State) (es : EventSet) :
    (s.setMgmt { s.mgmt with latch := es }).alertReady = s.alertReady := rfl

theorem latch_of_ready {e : Event} {s : State} {c : Chan}
    (alerts : hasEvent s.tables.desk.alertSet e = true) (ready : s.alertReady = some c) :
    latch e s = sendAlert c e (s.setMgmt { s.mgmt with latch := addEvent s.mgmt.latch e }) := by
  unfold latch
  dsimp only
  rw [if_pos alerts, alertReady_setLatch, ready]

theorem latch_of_not_alerting {e : Event} {s : State}
    (h : hasEvent s.tables.desk.alertSet e = false ∨ s.alertReady = none) :
    latch e s = s.setMgmt { s.mgmt with latch := addEvent s.mgmt.latch e } := by
  unfold latch
  dsimp only
  rw [alertReady_setLatch]
  rcases h with outside | silent
  · rw [outside, if_neg Bool.false_ne_true]
  · rw [silent]
    split <;> rfl

/-! ## The lowest latched event of the alert set (R181, R184) -/

theorem eventNumber_allEvents (i : Fin allEvents.length) :
    eventNumber allEvents[i] = i.val + 1 := by
  decide +revert

theorem allEvents_eventNumber (e : Event) : ∃ h, allEvents[eventNumber e - 1]'h = e := by
  cases e <;> exact ⟨by decide, rfl⟩

theorem lowestAlert_eq_some {s : State} {e : Event} (latched : hasEvent s.mgmt.latch e = true)
    (alerts : hasEvent s.tables.desk.alertSet e = true)
    (lowest : ∀ g, eventNumber g < eventNumber e →
      hasEvent s.mgmt.latch g = false ∨ hasEvent s.tables.desk.alertSet g = false) :
    s.lowestAlert = some e := by
  obtain ⟨bound, place⟩ := allEvents_eventNumber e
  refine List.find?_eq_some_iff_getElem.2 ⟨by rw [latched, alerts]; rfl, _, bound, place, ?_⟩
  intro j before
  have number : eventNumber allEvents[j] = j + 1 := eventNumber_allEvents ⟨j, before.trans bound⟩
  simpa [or_iff_not_imp_left] using lowest allEvents[j] (by omega)

theorem lowestAlert_eq_none {s : State}
    (h : ∀ e, hasEvent s.mgmt.latch e = false ∨ hasEvent s.tables.desk.alertSet e = false) :
    s.lowestAlert = none := by
  refine List.find?_eq_none.2 fun e _ => ?_
  simpa [or_iff_not_imp_left] using h e

theorem alertOnActive_of_lowest {c : Chan} {s : State} {e : Event}
    (ready : s.alertReady = some c) (lowest : s.lowestAlert = some e) :
    alertOnActive c s = sendAlert c e s := by
  rw [alertOnActive, if_pos (alertReady_eq_some_iff.1 ready).2.1, alertWhenActive, ready, lowest]

theorem alertOnActive_of_nothing {c : Chan} {s : State}
    (h : s.alertReady = none ∨ s.lowestAlert = none) : alertOnActive c s = s := by
  unfold alertOnActive alertWhenActive
  rcases h with silent | nothing
  · rw [silent]
    split <;> rfl
  · rw [nothing]
    cases s.alertReady <;> split <;> rfl

/-! ## The summary byte (R182) -/

/-- A number built from flags, the first the least significant, has flag k as its bit k. -/
theorem testBit_foldr_flags {α : Type} {digit : α → Nat} {flag : α → Bool}
    (h : ∀ a, digit a = (flag a).toNat) (l : List α) (k : Nat) :
    (l.foldr (fun a n => 2 * n + digit a) 0).testBit k = (l[k]?.map flag).getD false := by
  induction l generalizing k with
  | nil => simp
  | cons a l ih =>
    rw [List.foldr_cons, h, ← Nat.bit_val]
    cases k with
    | zero => simp
    | succ k => simp [Nat.testBit_bit_succ, ih]

theorem getLsbD_summary (s : State) (k : Fin 8) :
    s.summary.getLsbD k.val = (nth s.tables.desk.summarySlots k).any (hasEvent s.mgmt.latch) := by
  have slot : s.tables.desk.summarySlots.toList[k.val]? = some (nth s.tables.desk.summarySlots k) := by
    simp [nth]
  rw [State.summary, byteOf, BitVec.getLsbD_ofNat,
    testBit_foldr_flags (flag := Option.any (hasEvent s.mgmt.latch)), slot]
  · simp
  · intro e
    cases e with
    | none => rfl
    | some e => cases h : hasEvent s.mgmt.latch e <;> simp [h]

/-! ## The bytes of an event set (chapter 11) -/

theorem toNat_eventSet_bytes (b0 b1 b2 : Byte) :
    (b2 ++ (b1 ++ b0)).toNat = b0.toNat + 256 * b1.toNat + 65536 * b2.toNat := by
  have low := toNat_append_bytes b1 b0
  rw [BitVec.toNat_append, ← Nat.shiftLeft_add_eq_or_of_lt (b1 ++ b0).isLt, Nat.shiftLeft_eq]
  omega

/-- The three bytes of an event set, put together again, are the set. -/
theorem exists_eventSetBytes (es : EventSet) :
    ∃ b0 b1 b2 : Byte, b2 ++ (b1 ++ b0) = es ∧ eventSetBytes es = [b0, b1, b2] := by
  refine ⟨_, _, _, BitVec.eq_of_toNat_eq ?_, rfl⟩
  have lt := es.isLt
  rw [toNat_eventSet_bytes]
  simp only [byteOf, BitVec.toNat_ofNat]
  omega

/-- Three bytes name an event set where bit 23 is zero, and none where it is one (R185). -/
theorem eventSetAt?_payload (n0 n1 n2 : Byte) :
    eventSetAt? [n0, n1, n2] 0 =
      if n2.getLsbD 7 = true then none else some (n2 ++ (n1 ++ n0)) := by
  have value : BitVec.ofNat 24 (n0.toNat + 256 * n1.toNat + 65536 * n2.toNat) =
      n2 ++ (n1 ++ n0) := by
    rw [← toNat_eventSet_bytes]
    exact BitVec.ofNat_toNat 24 _
  have bit23 : n2.toNat < 128 ↔ n2.getLsbD 7 = false := by
    have lt := n2.isLt
    simp only [BitVec.getLsbD, Nat.testBit_eq_decide_div_mod_eq, decide_eq_false_iff_not]
    omega
  change (if n2.toNat < 128 then some (BitVec.ofNat 24 (n0.toNat + 256 * n1.toNat +
    65536 * n2.toNat)) else none) = _
  simp only [value, bit23]
  cases n2.getLsbD 7 <;> rfl

/-! ## READ_EVENTS and CLEAR_EVENTS (R183) -/

/-- A request that passes its checks is answered with the outcome of its work (R161, R162). -/
theorem request_accepted {cmd : Command} {c : Chan} {f : Frame} {s : State}
    (h : Accepted cmd c f s) (work : State → Reply × State) :
    request cmd c f (whenOk cmd f work) s = answer cmd c f (work s).1 s (work s).2 := by
  obtain ⟨active, passed, wellFormed⟩ := h
  rw [request, if_pos active, passed]
  dsimp only
  rw [whenOk, if_pos wellFormed]
  rfl

theorem exec_readEvents_accepted {c : Chan} {f : Frame} {s : State}
    (h : Accepted .readEvents c f s) :
    exec (.readEvents c f) s = .next (answer .readEvents c f
      (.of .ok (eventSetBytes s.mgmt.latch)) s { s with mgmt := { s.mgmt with
        latch := s.mgmt.latch &&& s.tables.desk.retainSet
        alertOutstanding := if s.tables.desk.alertChannel = some c then false
          else s.mgmt.alertOutstanding } }) :=
  congrArg Host.Outcome.next (request_accepted h (workReadEvents c))

theorem exec_clearEvents_accepted {c : Chan} {f : Frame} {s : State}
    (h : Accepted .clearEvents c f s) :
    exec (.clearEvents c f) s = .next (answer .clearEvents c f
      (workClearEvents f s).1 s (workClearEvents f s).2) :=
  congrArg Host.Outcome.next (request_accepted h (workClearEvents f))

theorem workClearEvents_refused {f : Frame} (h : eventSetAt? f.payload 0 = none) (s : State) :
    workClearEvents f s = (.bare .invalid, s) := by
  rw [workClearEvents, h]

theorem workClearEvents_named {f : Frame} {named : EventSet}
    (h : eventSetAt? f.payload 0 = some named) (s : State) :
    workClearEvents f s = (.of .ok (eventSetBytes (s.mgmt.latch &&& ~~~named)),
      { s with mgmt := { s.mgmt with latch := s.mgmt.latch &&& ~~~named } }) := by
  rw [workClearEvents, h]
  rfl

/-- Settles O56: the alert rule by what makes the alert channel ready and what is lowest in the
latch, and the two requests by the bytes of an event set. -/
theorem eventsAndAlerts : Obligations.EventsAndAlerts := by
  refine ⟨fun s alert alert_eq => ?_, fun c f s => ⟨?_, ?_, ?_⟩⟩
  · have sends : ∀ {c e u}, (u.link c).state = .active → sendAlert c e u = alert c e u := by
      intro c e u active
      rw [sendAlert_active active, alert_eq]
      rfl
    refine ⟨?_, fun c channel active => ⟨?_, ?_⟩⟩
    · rintro e u rfl
      refine ⟨hasEvent_addEvent s.mgmt.latch e, fun c alerts clear channel active => ?_,
        fun quiet => latch_of_not_alerting (quiet.imp_right alertReady_eq_none)⟩
      exact (latch_of_ready alerts (alertReady_eq_some_iff.2 ⟨clear, channel, active⟩)).trans
        (sends active)
    · intro e clear latched alerts lowest
      exact (alertOnActive_of_lowest (alertReady_eq_some_iff.2 ⟨clear, channel, active⟩)
        (lowestAlert_eq_some latched alerts lowest)).trans (sends active)
    · intro quiet
      exact alertOnActive_of_nothing (quiet.imp (fun outstanding =>
        alertReady_eq_none (.inl outstanding)) lowestAlert_eq_none)
  · intro k
    rw [getLsbD_summary]
    cases nth s.tables.desk.summarySlots k <;> rfl
  · intro accepted
    obtain ⟨b0, b1, b2, whole, bytes⟩ := exists_eventSetBytes s.mgmt.latch
    refine ⟨b0, b1, b2, whole, ?_⟩
    rw [exec_readEvents_accepted accepted, bytes]
    rfl
  · intro n0 n1 n2 accepted payload
    have read := eventSetAt?_payload n0 n1 n2
    rw [← payload] at read
    rw [exec_clearEvents_accepted accepted]
    refine ⟨fun outside => ?_, fun inside => ?_⟩
    · rw [if_pos outside] at read
      rw [workClearEvents_refused read]
      rfl
    · rw [inside, if_neg Bool.false_ne_true] at read
      rw [workClearEvents_named read]
      obtain ⟨b0, b1, b2, whole, bytes⟩ :=
        exists_eventSetBytes (s.mgmt.latch &&& ~~~(n2 ++ (n1 ++ n0)))
      refine ⟨b0, b1, b2, _, rfl, whole, ?_⟩
      rw [bytes]
      rfl

end Sys2Proof.Machine
end

section
/-! The signature of a list of bytes (R186): one more byte, and the residue 0 of bytes with their signature behind: O58. -/

namespace Sys2Proof.Machine

/-! ## The shifts of the remainder (R186) -/

theorem crcShift_eq_ite_getLsbD (r : BitVec 16) :
    crcShift r = if r.getLsbD 15 then (r <<< 1) ^^^ 0x1021#16 else r <<< 1 := by
  rw [crcShift, BitVec.msb_eq_getLsbD_last]

/-- The remainder is combined with 0x1021 only when the bit shifted out was 1. -/
theorem crcShift_of_lt {r : BitVec 16} (h : r.toNat < 2 ^ 15) : crcShift r = r <<< 1 := by
  rw [crcShift, BitVec.msb_eq_false_iff_two_mul_lt.2 (by omega), if_neg Bool.false_ne_true]

/-- While every bit shifted out is 0, the steps of R186 are one plain shift. -/
theorem crcShifts_of_lt {n : Nat} {r : BitVec 16} (h : r.toNat * 2 ^ n < 2 ^ 16) :
    crcShifts n r = r <<< n := by
  induction n generalizing r with
  | zero => exact (BitVec.shiftLeft_zero r).symm
  | succ n ih =>
    have room : 2 * r.toNat * 2 ^ n < 2 ^ 16 := by rwa [mul_comm 2, mul_assoc, ← Nat.pow_succ']
    have small : 2 * r.toNat < 2 ^ 16 :=
      (Nat.le_mul_of_pos_right _ (Nat.two_pow_pos n)).trans_lt room
    have doubled : (r <<< 1).toNat = 2 * r.toNat := by
      rw [BitVec.toNat_shiftLeft, Nat.shiftLeft_eq]
      omega
    calc crcShifts n (crcShift r)
      _ = crcShifts n (r <<< 1) := by rw [crcShift_of_lt (by omega)]
      _ = r <<< 1 <<< n := ih (by rwa [doubled])
      _ = r <<< (n + 1) := by rw [← BitVec.shiftLeft_add, add_comm]

/-! ## One byte (R186) -/

theorem shiftLeft_eq_append_zero {r : BitVec 16} {b : Byte} (h : r.toNat = b.toNat) :
    r <<< 8 = b ++ (0 : Byte) := by
  have shifted : (b ++ (0 : Byte) : BitVec 16).toNat = 256 * b.toNat :=
    (toNat_append_bytes b 0).trans (Nat.zero_add _)
  have lt := b.isLt
  apply BitVec.eq_of_toNat_eq
  rw [shifted, BitVec.toNat_shiftLeft, Nat.shiftLeft_eq, h]
  omega

/-- A byte goes into the upper eight bits of the remainder. -/
theorem crcByte_eq_append (r : BitVec 16) (b : Byte) :
    crcByte r b = crcShifts 8 (r ^^^ (b ++ (0 : Byte))) := by
  rw [crcByte, shiftLeft_eq_append_zero (BitVec.toNat_setWidth_of_le (by decide))]

/-- The upper byte of the remainder cancels against itself, and eight plain shifts put the lower
one in its place. -/
theorem crcByte_upper (hi lo : Byte) : crcByte (hi ++ lo) hi = lo ++ (0 : Byte) := by
  have cancel : (hi ++ lo) ^^^ (hi ++ (0 : Byte)) = (0 : Byte) ++ lo :=
    BitVec.xor_append.trans (congrArg₂ _ BitVec.xor_self BitVec.xor_zero)
  have low : ((0 : Byte) ++ lo : BitVec 16).toNat = lo.toNat := toNat_append_bytes 0 lo
  have lt := lo.isLt
  rw [crcByte_eq_append, cancel, crcShifts_of_lt (by omega), shiftLeft_eq_append_zero low]

theorem crcByte_self (b : Byte) : crcByte (b ++ (0 : Byte)) b = 0 := by
  rw [crcByte_upper]
  rfl

/-! ## The signature -/

theorem signature_concat (bytes : List Byte) (b : Byte) :
    signature (bytes ++ [b]) = crcByte (signature bytes) b :=
  List.foldl_concat ..

/-- Bytes with their signature behind them, the upper byte first, leave the remainder 0. -/
theorem signature_append_signature {bytes : List Byte} {hi lo : Byte}
    (h : hi ++ lo = signature bytes) : signature (bytes ++ [hi, lo]) = 0 := by
  rw [List.append_cons, signature_concat, signature_concat, ← h, crcByte_upper, crcByte_self]

/-- Settles O58: a byte more is one application of `crcByte`, and of a list with its signature
behind, each byte of the signature cancels the upper byte of the remainder it meets. -/
theorem signatureLaw : Obligations.SignatureLaw := by
  intro shift shift_eq
  obtain rfl : shift = crcShift :=
    funext fun r => (shift_eq r).trans (crcShift_eq_ite_getLsbD r).symm
  refine ⟨rfl, fun bytes b => ?_, by decide +kernel, fun _ _ _ => signature_append_signature,
    fun _ _ => rfl⟩
  rw [signature_concat, crcByte_eq_append]
  rfl

end Sys2Proof.Machine
end

section
/-! One step of the part: the command that has waited longest, or idling (log 9): O1. -/

namespace Sys2Proof.Machine

variable {s : State}

theorem step_of_pending_eq_cons {c : Instr} {rest : List Instr} (h : s.pending = c :: rest) :
    step s = exec c { s with pending := rest } := by
  rw [step, h]

theorem step_of_pending_eq_nil (h : s.pending = []) : step s = .next s := by
  rw [step, h]

/-- Settles O1, by the two forms of the queue. -/
theorem stepRunsFrontCommand : Obligations.StepRunsFrontCommand :=
  ⟨fun _ _ _ => step_of_pending_eq_cons, fun _ => step_of_pending_eq_nil⟩

end Sys2Proof.Machine
end
